-- ==== Sys2Proof/Word.lean ====
section
/-! DEFINITION. The word types and the architecture's closed sets of names (Exception levels,
instruction sets, conditions, AArch32 modes) that every other file uses. -/

namespace Sys2Proof

/-- A 32-bit value: the width of ID_ISAR5 (R11) and of an AArch32 general-purpose register (R36). -/
abbrev Word := BitVec 32

/-- The smallest addressable unit of the composed model's memory. -/
abbrev Byte := BitVec 8

/-- The four Exception levels, the values of `ctx.EL` (R5, R30, R90). -/
inductive EL where
  | el0
  | el1
  | el2
  | el3
deriving DecidableEq, Repr, Inhabited

/-- The instruction set state, `ctx.iset` (R5, R53): PSTATE.T selects A32 or T32. -/
inductive ISet where
  | a32
  | t32
deriving DecidableEq, Repr, Inhabited

/-- The execution state (R9): the MRC exists in AArch32 state only. -/
inductive ExState where
  | aarch32
  | aarch64
deriving DecidableEq, Repr, Inhabited

/-- The condition codes of `{<c>}` (R51), in the order of their numbers 0b0000 to 0b1110
(95_test_vectors.md 2.1). 0b1111 is no condition (R54). -/
inductive Cond where
  | eq
  | ne
  | cs
  | cc
  | mi
  | pl
  | vs
  | vc
  | hi
  | ls
  | ge
  | lt
  | gt
  | le
  | al
deriving DecidableEq, Repr, Inhabited

/-- The AArch32 modes (R90). PRESUMED (log 6): the list is the spec's general knowledge. -/
inductive Mode where
  | user
  | fiq
  | irq
  | supervisor
  | monitor
  | abort
  | hyp
  | undefined
  | system
deriving DecidableEq, Repr, Inhabited

end Sys2Proof
end

