-- ==== Sys2Proof/Config.lean ====
section
/-! DEFINITION. The two records of R5, what an implementation fixes (`cfg`) and what each access is
given (`ctx`); and the values the spec leaves open, each an opaque constant that no proof can see. -/

namespace Sys2Proof

/-- The configuration record `cfg` of R5: the architecture's minor version, whether AArch32 is
supported at any Exception level, and the seven fields of ID_ISAR5. -/
structure Cfg where
  /-- `cfg.arch_minor`: n means Armv8.n. -/
  archMinor : Nat
  /-- `cfg.aarch32_any_el` (R12). -/
  aarch32AnyEl : Bool
  vcma : BitVec 4
  rdm : BitVec 4
  crc32 : BitVec 4
  sha2 : BitVec 4
  sha1 : BitVec 4
  aes : BitVec 4
  sevl : BitVec 4
deriving DecidableEq, Repr, Inhabited

/-- The permitted-value predicate of R23: every field holds a value that the configured
architecture version permits (R15, R16, R18 to R22). -/
def Cfg.permitted (c : Cfg) : Bool :=
  (c.vcma == 1#4 || (decide (c.archMinor < 3) && c.vcma == 0#4)) &&
  (c.rdm == 1#4 || (decide (c.archMinor < 1) && c.rdm == 0#4)) &&
  (c.crc32 == 1#4 || (decide (c.archMinor < 1) && c.crc32 == 0#4)) &&
  (c.sha2 == 0#4 || c.sha2 == 1#4) &&
  (c.sha1 == 0#4 || c.sha1 == 1#4) &&
  (c.aes == 0#4 || c.aes == 2#4) &&
  c.sevl == 1#4

/-- A well-formed configuration. R23: a `cfg` that fails `permitted` is refused, not given a
meaning, so a machine cannot be built from one. -/
structure WfCfg where
  raw : Cfg
  ok : raw.permitted = true
deriving DecidableEq, Repr

/-- The check that refuses a configuration (R23, 93 part A rows A4 to A12). -/
def Cfg.check (c : Cfg) : Option WfCfg :=
  if h : c.permitted = true then some ⟨c, h⟩ else none

namespace Machine

/-- The context record `ctx` of R5, one for each access. A trap bit is `true` where it is `'1'`. -/
structure Ctx where
  el : EL
  el2Enabled : Bool
  el2UsingAArch32 : Bool
  hstrEl2T0 : Bool
  hstrT0 : Bool
  hcrEl2Tid3 : Bool
  hcrTid3 : Bool
  iset : ISet
  condPassed : Bool
deriving DecidableEq, Repr

end Machine

namespace Config

/-- The configuration of the machine that `State.reset` describes: OPEN in R5, so any at all.
FREE VALUE (log 2). -/
opaque implemented : Cfg

/-- A permitted configuration, used only where `implemented` is not one: every field at the
smallest value permitted from Armv8.3 on (R23: 0x11010001). -/
def fallback : WfCfg :=
  ⟨{ archMinor := 3, aarch32AnyEl := true, vcma := 1#4, rdm := 1#4, crc32 := 1#4, sha2 := 0#4,
     sha1 := 0#4, aes := 0#4, sevl := 1#4 }, by decide⟩

/-- The configuration at reset: `implemented` where R23 permits it. A proof about it is a proof
for every permitted configuration. -/
def atReset : WfCfg :=
  implemented.check.getD fallback

/-- `UNKNOWN_32` (R7, R12): a fresh 32-bit draw at each read, under no law. FREE VALUE (log 3). -/
opaque unknown32 : Nat → Word

/-- Whether an MRC that fails its condition, and would have raised an exception had it passed,
raises it all the same; R73 admits both. It is the implementation's choice (D8), one for each context,
so that one context gives one outcome (R76). FREE VALUE (log 4). -/
opaque failedCondRaises : Machine.Ctx → Bool

/-- `EL2Enabled()` and `ELUsingAArch32(EL2)` at reset (R35, R38). FREE VALUES (log 5). -/
opaque resetEl2Enabled : Bool

@[inherit_doc resetEl2Enabled]
opaque resetEl2UsingAArch32 : Bool

/-- The trap bits at reset. R38: a model that holds them as state must start them as free values,
not as 0. FREE VALUES (log 5). -/
opaque resetHstrEl2T0 : Bool

@[inherit_doc resetHstrEl2T0]
opaque resetHstrT0 : Bool

@[inherit_doc resetHstrEl2T0]
opaque resetHcrEl2Tid3 : Bool

@[inherit_doc resetHstrEl2T0]
opaque resetHcrTid3 : Bool

/-- HCR.TGE and HCR_EL2.TGE (R80), and whether EL1 uses AArch32, at reset: no rule gives a value.
FREE VALUES (log 5). -/
opaque resetHcrTge : Bool

@[inherit_doc resetHcrTge]
opaque resetHcrEl2Tge : Bool

@[inherit_doc resetHcrTge]
opaque resetEl1UsingAArch32 : Bool

/-- The instruction set state an exception entry to AArch32 starts in: R80 and R81 do not say.
FREE VALUE (log 14). -/
opaque entryISet : Nat → ISet

/-- CV and COND of the syndrome, `CV : COND`: R81 gives their place and not their values.
FREE VALUE (log 15). -/
opaque syndromeCvCond : Nat → BitVec 5

/-- The number ESR_EL2 reports for a banked copy of Rt: R82 gives the place of a five-bit Rt and no
numbering of banked copies. FREE VALUE (log 15). -/
opaque syndromeBankedRt : Nat → BitVec 5

/-- HSR after an `Undefined` that TGE routes to Hyp mode, and ESR_EL2 after one it routes to EL2
using AArch64: R80 gives neither. FREE VALUES (log 16). -/
opaque undefinedHsr : Nat → Word

@[inherit_doc undefinedHsr]
opaque undefinedEsrEl2 : Nat → Word

/-- Bits [25:0] of ESR_EL1 after an `Undefined` taken to EL1 using AArch64: R80 gives EC alone.
FREE VALUE (log 16). -/
opaque undefinedEsrEl1Low : Nat → BitVec 26

/-- The handler's address where R80 names no vector offset: Hyp mode by TGE, and the two entries
to AArch64. FREE VALUES (log 16). -/
opaque undefinedHypPc : Nat → Word

@[inherit_doc undefinedHypPc]
opaque undefinedPc64 : Nat → BitVec 64

/-- What entry to Undefined mode leaves in that mode's LR copy: R80 gives the preferred return
address and not the value of the link register. FREE VALUE (log 16). -/
opaque undefinedLink : Nat → Word

end Config

end Sys2Proof
end

