-- ==== Sys2Proof/Machine/State.lean ====
section
/-! DEFINITION. State, plain data: everything the spec gives the machine, the enclosing PE's part in
it, and the machine right after reset. -/

namespace Sys2Proof.Machine

/-- The condition flags N, Z, C and V (R37). -/
structure Flags where
  n : Bool
  z : Bool
  c : Bool
  v : Bool
deriving DecidableEq, Repr

/-- The PSTATE the spec names: EL (R30), the execution state (R9), T as the instruction set (R53),
the AArch32 mode (R90; at EL0 it is User and at EL2 Hyp, whatever `mode` holds) and the flags (R37).
In AArch64 state `iset` and `mode` are not read. -/
structure PState where
  el : EL
  exState : ExState
  iset : ISet
  mode : Mode
  flags : Flags
deriving DecidableEq, Repr

/-- What the enclosing PE supplies for one access: R5's `ctx`, and what else of the PE the model needs to
run it, which R5's record does not have: the AArch32 mode (R36, R90), whether EL1 uses AArch32, and the
two TGE controls (R80). That these four come as inputs with the context is a DESIGN CHOICE (log 18). -/
structure Supply where
  ctx : Ctx
  mode : Mode
  el1UsingAArch32 : Bool
  hcrTge : Bool
  hcrEl2Tge : Bool
deriving DecidableEq, Repr

/-- What EL2 is and what it traps, as in effect now: the two functions of R35, the four bits of
R31 to R34, and the TGE controls of HCR and HCR_EL2 that R80 names. -/
structure El2Controls where
  enabled : Bool
  usingAArch32 : Bool
  hstrEl2T0 : Bool
  hstrT0 : Bool
  hcrEl2Tid3 : Bool
  hcrTid3 : Bool
  hcrTge : Bool
  hcrEl2Tge : Bool
deriving DecidableEq, Repr

/-- The registers of exception entry to Hyp mode (R81): HSR, ELR_hyp, SPSR_hyp and HVBAR. SPSR_hyp
holds the interrupted PSTATE as a record, since no rule gives its bits (log 13). -/
structure HypRegs where
  hsr : Word
  elr : Word
  spsr : PState
  hvbar : Word
deriving DecidableEq, Repr

/-- The registers of exception entry to EL2 using AArch64 (R82): ESR_EL2[31:0], ELR_EL2, SPSR_EL2
and VBAR_EL2. -/
structure El2Regs where
  esr : Word
  elr : BitVec 64
  spsr : PState
  vbar : BitVec 64
deriving DecidableEq, Repr

/-- The registers of exception entry to EL1 (R80): the AArch32 vector base, and ESR_EL1[31:0]. -/
structure El1Regs where
  vectorBase : Word
  esr : Word
deriving DecidableEq, Repr

/-- The three exceptions of R83, with the information each carries (R80 to R82). -/
inductive Exc where
  /-- `UNDEFINED;` (R80): no payload. -/
  | undefined
  /-- `AArch32.TakeHypTrapException(ec)` (R81). -/
  | hypTrap (ec : Byte)
  /-- `AArch64.AArch32SystemAccessTrap(target, ec)` (R82). -/
  | a64SystemAccessTrap (target : EL) (ec : Byte)
deriving DecidableEq, Repr

/-- The outcomes of one execution (R78). The refused outcome is a `Refusal`. -/
inductive Result where
  /-- `return ID_ISAR5;` -/
  | value (v : Word)
  /-- Arises only from `ctx.cond_passed = false` (R73). -/
  | nop
  | raised (e : Exc)
deriving DecidableEq, Repr

/-- The machine: the register's configuration, and the enclosing PE as far as the spec names it. -/
structure State where
  /-- ID_ISAR5 and its presence (R10 to R12): a configuration, which no step changes. -/
  cfg : WfCfg
  /-- PSTATE (R30, R37, R53). -/
  pstate : PState
  /-- EL2's state and controls (R31 to R35). -/
  el2 : El2Controls
  /-- Whether EL1 uses AArch32 (R80). -/
  el1UsingAArch32 : Bool
  /-- The input `ctx.cond_passed` (R37, R73). -/
  condPassed : Bool
  /-- What the enclosing PE supplies for the accesses after this one, oldest first (R5, log 18). -/
  ctxQueue : List Supply
  /-- Every copy of every general-purpose register (R36), see `physIndex` in Machine/Ops.lean. -/
  gpr : Vector Word 33
  /-- The AArch32 program counter (R37, R71). -/
  pc : Word
  /-- The program counter in AArch64 state (R82). -/
  pc64 : BitVec 64
  hypRegs : HypRegs
  el2Regs : El2Regs
  el1Regs : El1Regs
  /-- The preferred return address of the last exception taken (R80). -/
  returnAddress : Word
  /-- The composed model's memory: (address, byte) pairs, addresses strictly rising; an unlisted
  address holds no value (log 11). -/
  mem : List Host.Cell
  /-- The outcome of the last instruction executed (R78); none since reset. -/
  lastResult : Option Result
  /-- THE MODEL'S OWN: how many instructions have drawn free values. -/
  draws : Nat
deriving DecidableEq, Repr

/-- Why a step faults. Each comes from the composed model's instruction fetch. -/
inductive Fault where
  /-- `step`: the pc is not aligned for its instruction set (R44). Safe. -/
  | pcMisaligned
  /-- `step`: a byte of the instruction has never been written. Safe. -/
  | fetchUnwritten
  /-- `step`: the instruction runs past the top of the 32-bit address space. Safe. -/
  | fetchPastTop
deriving DecidableEq, Repr

/-- Why a step has no meaning. -/
inductive Refusal where
  /-- `exec`: an instruction that has no meaning yet. Safe. -/
  | notModelled (mnemonic : String)
  /-- `step`: the bytes are outside this spec, the write form included (R60, R61, R75). Safe. -/
  | notThisSpec
  /-- `step` and the meanings: Rt = 0b1111 (R74, decision D6). Safe. -/
  | rtIs15
  /-- `step`: the PE is in AArch64 state, where no instruction of this spec exists (R9). Safe. -/
  | aarch64State
deriving DecidableEq, Repr

/-- PSTATE after reset. PRESUMED (log 7): EL3, AArch32, Supervisor mode, A32, flags clear. -/
def PState.reset : PState :=
  { el := .el3, exState := .aarch32, iset := .a32, mode := .supervisor,
    flags := { n := false, z := false, c := false, v := false } }

/-- The machine right after reset. R38 and R100 give ID_ISAR5 (its configuration) and ask for free
trap bits; every other value is named in log 5 or 7. -/
def State.reset : State :=
  { cfg := Config.atReset
    pstate := PState.reset
    el2 :=
      { enabled := Config.resetEl2Enabled
        usingAArch32 := Config.resetEl2UsingAArch32
        hstrEl2T0 := Config.resetHstrEl2T0
        hstrT0 := Config.resetHstrT0
        hcrEl2Tid3 := Config.resetHcrEl2Tid3
        hcrTid3 := Config.resetHcrTid3
        hcrTge := Config.resetHcrTge
        hcrEl2Tge := Config.resetHcrEl2Tge }
    el1UsingAArch32 := Config.resetEl1UsingAArch32
    condPassed := true
    ctxQueue := []
    gpr := Vector.replicate 33 0#32
    pc := 0#32
    pc64 := 0#64
    hypRegs := { hsr := 0#32, elr := 0#32, spsr := PState.reset, hvbar := 0#32 }
    el2Regs := { esr := 0#32, elr := 0#64, spsr := PState.reset, vbar := 0#64 }
    el1Regs := { vectorBase := 0#32, esr := 0#32 }
    returnAddress := 0#32
    mem := []
    lastResult := none
    draws := 0 }

end Sys2Proof.Machine
end

