-- ==== Sys2Proof/Machine/Flags.lean ====
section
/-! DEFINITION. The flag computation of the spec: none. -/

namespace Sys2Proof.Machine

/-- R71: "Flags written: none." N, Z, C and V are unchanged on every outcome. -/
def flagsAfter (_r : Result) (f : Flags) : Flags :=
  f

end Sys2Proof.Machine
end

