-- ==== Sys2Proof/Machine/IdIsar5.lean ====
section
/-! DEFINITION. The register itself: its value from the configuration (R11), its fields (R14), its
second name ID_ISAR5_EL1 (R13) and what its fields say of the PE (R27). -/

namespace Sys2Proof

/-- `cfg.id_isar5` (R11): VCMA in the most significant four bits, bits [23:20] zero (R17). -/
def Cfg.idIsar5 (c : Cfg) : Word :=
  c.vcma ++ c.rdm ++ 0#4 ++ c.crc32 ++ c.sha2 ++ c.sha1 ++ c.aes ++ c.sevl

/-- The eight fields of the register diagram (R11). -/
inductive Field where
  | vcma
  | rdm
  | res0
  | crc32
  | sha2
  | sha1
  | aes
  | sevl
deriving DecidableEq, Repr

/-- The lowest bit of a field, the shift column of R14. -/
def Field.lo : Field → Nat
  | .vcma => 28
  | .rdm => 24
  | .res0 => 20
  | .crc32 => 16
  | .sha2 => 12
  | .sha1 => 8
  | .aes => 4
  | .sevl => 0

/-- The mask column of R14, in place. -/
def Field.mask : Field → Word
  | .vcma => 0xF0000000#32
  | .rdm => 0x0F000000#32
  | .res0 => 0x00F00000#32
  | .crc32 => 0x000F0000#32
  | .sha2 => 0x0000F000#32
  | .sha1 => 0x00000F00#32
  | .aes => 0x000000F0#32
  | .sevl => 0x0000000F#32

/-- Field extraction (R14): `v[lo+3:lo]`. -/
def Field.of (f : Field) (v : Word) : BitVec 4 :=
  v.extractLsb' f.lo 4

/-- The value the configuration gives a field; the RES0 field is 0b0000 (R17). -/
def Cfg.field (c : Cfg) : Field → BitVec 4
  | .vcma => c.vcma
  | .rdm => c.rdm
  | .res0 => 0#4
  | .crc32 => c.crc32
  | .sha2 => c.sha2
  | .sha1 => c.sha1
  | .aes => c.aes
  | .sevl => c.sevl

/-- What a program may conclude from the fields, one name for each row of R27's table. -/
inductive Feature where
  | vcmlaVcadd
  | vqrdmlahVqrdmlsh
  | crc32Instrs
  | sha256Instrs
  | sha1Instrs
  | aesInstrs
  | polynomialVmull64
  | sevlSendsEvent
  | sevlIsNop
deriving DecidableEq, Repr

/-- R27: the predicate of each row, over `cfg`. Fields are compared for equality with defined values
only (R79, decision D17). -/
def Cfg.has (c : Cfg) : Feature → Bool
  | .vcmlaVcadd => c.vcma == 1#4
  | .vqrdmlahVqrdmlsh => c.rdm == 1#4
  | .crc32Instrs => c.crc32 == 1#4
  | .sha256Instrs => c.sha2 == 1#4
  | .sha1Instrs => c.sha1 == 1#4
  | .aesInstrs => c.aes == 1#4 || c.aes == 2#4
  | .polynomialVmull64 => c.aes == 2#4
  | .sevlSendsEvent => c.sevl == 1#4
  | .sevlIsNop => c.sevl == 0#4

namespace Machine

/-- ID_ISAR5[31:0] of the machine. -/
def State.idIsar5 (s : State) : Word :=
  s.cfg.raw.idIsar5

/-- `value_read(cfg)` (R12): the register where AArch32 is supported at some Exception level, a fresh
free draw otherwise (R77). FREE VALUE (log 3). -/
def State.valueRead (s : State) : Word :=
  if s.cfg.raw.aarch32AnyEl then s.idIsar5 else Config.unknown32 s.draws

/-- ID_ISAR5_EL1[31:0] (R13): a second name for the same bits, so a direct access through it gives what
one through the first name gives. Where the register is absent that is the UNKNOWN draw and not the
configuration's bits, since R12 and C3 say that the UNKNOWN arm bites through this view: DEDUCED
(log 17). -/
def State.idIsar5El1Low (s : State) : Word :=
  s.valueRead

/-- The 64-bit reading `zext_64(ID_ISAR5)` (R13). PRESUMED (log 17): the upper half is the spec's
general knowledge. -/
def State.idIsar5El1 (s : State) : BitVec 64 :=
  s.idIsar5El1Low.setWidth 64

end Machine

end Sys2Proof
end

