-- ==== Sys2Proof/Machine/Operands.lean ====
section
/-! DEFINITION. The operand form of the one instruction (R36, R71): the destination `<Rt>`. It has no
source register and no immediate. -/

namespace Sys2Proof.Machine

/-- The register number in the Rt field: 0 to 14 is admitted, 15 is refused (R74, decision D6). -/
def destOf (rt : BitVec 4) : Option (Fin 15) :=
  if h : rt.toNat < 15 then some ⟨rt.toNat, h⟩ else none

/-- The Rt field of a register number. -/
def rtOf (t : Fin 15) : BitVec 4 :=
  BitVec.ofNat 4 t.val

/-- The context of this access (R5), read off the state. -/
def State.ctx (s : State) : Ctx :=
  { el := s.pstate.el
    el2Enabled := s.el2.enabled
    el2UsingAArch32 := s.el2.usingAArch32
    hstrEl2T0 := s.el2.hstrEl2T0
    hstrT0 := s.el2.hstrT0
    hcrEl2Tid3 := s.el2.hcrEl2Tid3
    hcrTid3 := s.el2.hcrTid3
    iset := s.pstate.iset
    condPassed := s.condPassed }

/-- The state with R5's `ctx` replaced, and nothing else. DESIGN CHOICE (log 18): R5's record has no
AArch32 mode, no execution state, no TGE and no state of EL1, so a context that changes EL leaves these
as they were; `State.withSupply` supplies the mode, TGE and EL1's state beside it. -/
def State.withCtx (s : State) (c : Ctx) : State :=
  { s with
    pstate := { s.pstate with el := c.el, iset := c.iset }
    el2 :=
      { s.el2 with
        enabled := c.el2Enabled
        usingAArch32 := c.el2UsingAArch32
        hstrEl2T0 := c.hstrEl2T0
        hstrT0 := c.hstrT0
        hcrEl2Tid3 := c.hcrEl2Tid3
        hcrTid3 := c.hcrTid3 }
    condPassed := c.condPassed }

/-- The state with what the enclosing PE supplies for one access. DESIGN CHOICE (log 18): the mode, TGE
and EL1's state may change at any access and are inputs; the execution state changes by exception
entry alone, since the spec has no return (R89); registers, flags and pc stay. -/
def State.withSupply (s : State) (p : Supply) : State :=
  let u := s.withCtx p.ctx
  { u with
    pstate := { u.pstate with mode := p.mode }
    el2 := { u.el2 with hcrTge := p.hcrTge, hcrEl2Tge := p.hcrEl2Tge }
    el1UsingAArch32 := p.el1UsingAArch32 }

/-- R5: at each access, one context. The oldest supplied takes effect; where none is supplied the one in
effect stays, with the mode, TGE and EL1's state it has. DESIGN CHOICE (log 18). -/
def State.supplyCtx (s : State) : State :=
  match s.ctxQueue with
  | [] => s
  | p :: rest => { s.withSupply p with ctxQueue := rest }

end Sys2Proof.Machine
end

