-- ==== Sys2Proof/Machine/Ops.lean ====
section
/-! DEFINITION. The named operations: general-purpose registers, memory and instruction fetch, the
program counter, and taking an exception. -/

namespace Sys2Proof.Machine

/-! ### General-purpose registers (R36, R74) -/

/-- Where the copy of register `t` that belongs to a mode is kept. 0 to 14 are R0 to R12, SP and LR
of User and System mode; 15 to 21 are R8 to LR of FIQ mode; then SP and LR of IRQ (22, 23),
Supervisor (24, 25), Abort (26, 27), Undefined (28, 29) and Monitor mode (30, 31), and SP of Hyp
mode (32). PRESUMED (log 6): R36 says that SP, LR and some others are banked by mode. -/
def physIndex (m : Mode) (t : Fin 15) : Fin 33 :=
  match m with
  | .user => ⟨t.val, by omega⟩
  | .system => ⟨t.val, by omega⟩
  | .fiq => if 8 ≤ t.val then ⟨t.val + 7, by omega⟩ else ⟨t.val, by omega⟩
  | .irq => if 13 ≤ t.val then ⟨t.val + 9, by omega⟩ else ⟨t.val, by omega⟩
  | .supervisor => if 13 ≤ t.val then ⟨t.val + 11, by omega⟩ else ⟨t.val, by omega⟩
  | .abort => if 13 ≤ t.val then ⟨t.val + 13, by omega⟩ else ⟨t.val, by omega⟩
  | .undefined => if 13 ≤ t.val then ⟨t.val + 15, by omega⟩ else ⟨t.val, by omega⟩
  | .monitor => if 13 ≤ t.val then ⟨t.val + 17, by omega⟩ else ⟨t.val, by omega⟩
  | .hyp => if t.val = 13 then 32 else ⟨t.val, by omega⟩

/-- The current AArch32 mode (R90): User mode is EL0 and Hyp mode is EL2; at EL1 and EL3 it is the mode
PSTATE holds. PRESUMED (log 6). -/
def PState.currentMode (p : PState) : Mode :=
  match p.el with
  | .el0 => .user
  | .el1 => p.mode
  | .el2 => .hyp
  | .el3 => p.mode

/-- Where the current mode's copy of register `t` is kept (R74). -/
def State.regIndex (s : State) (t : Fin 15) : Fin 33 :=
  physIndex s.pstate.currentMode t

/-- `x[t]` (R7): the copy of the current mode. -/
def State.readReg (s : State) (t : Fin 15) : Word :=
  s.gpr.get (s.regIndex t)

/-- `x[t] <- v` (R7, R36): write the copy of the current mode (R74: for SP too, a plain write). -/
def State.writeReg (s : State) (t : Fin 15) (v : Word) : State :=
  { s with gpr := s.gpr.set (s.regIndex t) v }

/-! ### Memory and instruction fetch (the composed model, D7, D10, D11) -/

/-- The number of byte addresses of an AArch32 PE. PRESUMED (log 11). -/
def memTop : Nat := 2 ^ 32

/-- The byte at an address; none where nothing has written it (log 11). -/
def Mem.read (m : List Host.Cell) (a : Nat) : Option Byte :=
  match m with
  | [] => none
  | (a', b) :: rest => if a = a' then some b else Mem.read rest a

/-- Write a byte, keeping the addresses rising. -/
def Mem.write (m : List Host.Cell) (a : Nat) (b : Byte) : List Host.Cell :=
  match m with
  | [] => [(a, b)]
  | (a', b') :: rest =>
    if a < a' then (a, b) :: (a', b') :: rest
    else if a = a' then (a, b) :: rest
    else (a', b') :: Mem.write rest a b

/-- The addresses are at least `lo`, strictly rising, and inside the address space. -/
def Mem.risesFrom (lo : Nat) : List Host.Cell → Bool
  | [] => true
  | (a, _) :: rest => decide (lo ≤ a) && decide (a < memTop) && Mem.risesFrom (a + 1) rest

/-- The canonical form. An unlisted address holds no value, so no entry can equal what an unlisted
address reads as. -/
def Mem.wf (m : List Host.Cell) : Bool :=
  Mem.risesFrom 0 m

/-- Write bytes at rising addresses. -/
def Mem.writeList (m : List Host.Cell) (a : Nat) : List Byte → List Host.Cell
  | [] => m
  | b :: rest => Mem.writeList (Mem.write m a b) (a + 1) rest

/-- The bytes from an address on, at most `n`, up to the first that is not there. -/
def Mem.bytesFrom (m : List Host.Cell) (a : Nat) : Nat → List Byte
  | 0 => []
  | n + 1 =>
    if a < memTop then
      match Mem.read m a with
      | some b => b :: Mem.bytesFrom m (a + 1) n
      | none => []
    else []

/-- R44: A32 instructions are 4-byte aligned, T32 instructions 2-byte aligned. PRESUMED (log 9). -/
def pcAligned (iset : ISet) (pc : Word) : Bool :=
  match iset with
  | .a32 => pc.toNat % 4 == 0
  | .t32 => pc.toNat % 2 == 0

/-- The bytes at the program counter that an instruction may be made of. -/
def State.fetchBytes (s : State) : List Byte :=
  Mem.bytesFrom s.mem s.pc.toNat 4

/-- Why the instruction's bytes could not all be fetched. -/
def State.fetchFault (s : State) : Fault :=
  if s.pc.toNat + s.fetchBytes.length < memTop then .fetchUnwritten else .fetchPastTop

/-- R71, decision D7: a `Value` or `Nop` outcome moves to the next instruction, 4 bytes on in both
instruction sets. PRESUMED (log 12). -/
def State.advancePc (s : State) : State :=
  { s with pc := s.pc + 4#32 }

/-! ### Taking an exception (R80 to R82) -/

/-- The syndrome's ISS for a trapped MRC or MCR with coproc = 0b1111 (R81): CV, COND, Opc2 = 5,
Opc1 = 0, CRn = 0, then bits [9:5], which hold Rt, then CRm = 2 and Direction = 1. -/
def trapIss (cvCond rt5 : BitVec 5) : BitVec 25 :=
  cvCond ++ 5#3 ++ 0#3 ++ 0#4 ++ rt5 ++ 2#4 ++ 1#1

/-- A syndrome register: EC in [31:26], IL in [25], which is 1 for a 32-bit instruction, ISS in
[24:0] (R81, R82). The exception class is the outcome's 0x03. -/
def syndrome (ec : Byte) (iss : BitVec 25) : Word :=
  ec.setWidth 6 ++ 1#1 ++ iss

/-- HSR for the trapped read: Rt in [8:5], bit [9] RES0 (R81). -/
def State.trapHsr (s : State) (ec : Byte) (t : Fin 15) : Word :=
  syndrome ec (trapIss (Config.syndromeCvCond s.draws) ((rtOf t).setWidth 5))

/-- ESR_EL2 for the trapped read: Rt in [9:5] (R82). A copy that is banked is numbered in a way the
spec does not give: FREE VALUE (log 15). -/
def State.trapEsrEl2 (s : State) (ec : Byte) (t : Fin 15) : Word :=
  syndrome ec (trapIss (Config.syndromeCvCond s.draws)
    (if (s.regIndex t).val < 15 then (rtOf t).setWidth 5
      else Config.syndromeBankedRt s.draws))

/-- Entry to Hyp mode (R81): HSR, the return address in ELR_hyp, the interrupted PSTATE in SPSR_hyp;
execution goes on at EL2 in Hyp mode. PRESUMED (log 13). -/
def State.enterHyp (s : State) (hsr target : Word) : State :=
  { s with
    hypRegs := { s.hypRegs with hsr := hsr, elr := s.pc, spsr := s.pstate }
    returnAddress := s.pc
    pc := target
    pstate :=
      { s.pstate with
        el := .el2, exState := .aarch32, mode := .hyp, iset := Config.entryISet s.draws } }

/-- Entry to EL2 using AArch64 (R82): ESR_EL2, the address of the MRC in ELR_EL2, the interrupted
PSTATE in SPSR_EL2. PRESUMED (log 13). -/
def State.enterEl2A64 (s : State) (level : EL) (esr : Word) (target : BitVec 64) : State :=
  { s with
    el2Regs := { s.el2Regs with esr := esr, elr := s.pc.setWidth 64, spsr := s.pstate }
    returnAddress := s.pc
    pc64 := target
    pstate := { s.pstate with el := level, exState := .aarch64 } }

/-- Entry to Undefined mode at EL1 (R80): the vector at offset 0x04 from the vector base; the mode's
link register takes a free value (log 16). PRESUMED (log 13). -/
def State.enterUndefinedMode (s : State) : State :=
  { s with
    gpr := s.gpr.set (physIndex .undefined 14) (Config.undefinedLink s.draws)
    returnAddress := s.pc
    pc := s.el1Regs.vectorBase + 0x04#32
    pstate :=
      { s.pstate with
        el := .el1, exState := .aarch32, mode := .undefined, iset := Config.entryISet s.draws } }

/-- Entry to EL1 using AArch64 (R80): ESR_EL1.EC = 0x00, "unknown reason". PRESUMED (log 13). -/
def State.enterEl1A64 (s : State) : State :=
  { s with
    el1Regs := { s.el1Regs with esr := 0x00#6 ++ Config.undefinedEsrEl1Low s.draws }
    returnAddress := s.pc
    pc64 := Config.undefinedPc64 s.draws
    pstate := { s.pstate with el := .el1, exState := .aarch64 } }

/-- R80: TGE of HCR or HCR_EL2, according to EL2's state, routes an EL0 exception to EL2. It is looked
at only where EL2 is enabled: PRESUMED (log 13). -/
def State.tgeRoutes (s : State) : Bool :=
  s.el2.enabled && (if s.el2.usingAArch32 then s.el2.hcrTge else s.el2.hcrEl2Tge)

/-- Taking an exception raised by the read of ID_ISAR5 into register `t`, the one operation for all
three (R80 to R82). The saved address is that of the MRC itself. -/
def State.takeException (s : State) (e : Exc) (t : Fin 15) : State :=
  match e with
  | .undefined =>
    if s.tgeRoutes then
      if s.el2.usingAArch32 then
        s.enterHyp (Config.undefinedHsr s.draws) (Config.undefinedHypPc s.draws)
      else
        s.enterEl2A64 .el2 (Config.undefinedEsrEl2 s.draws) (Config.undefinedPc64 s.draws)
    else if s.el1UsingAArch32 then s.enterUndefinedMode
    else s.enterEl1A64
  | .hypTrap ec => s.enterHyp (s.trapHsr ec t) (s.hypRegs.hvbar + 0x14#32)
  | .a64SystemAccessTrap level ec =>
    s.enterEl2A64 level (s.trapEsrEl2 ec t) (s.el2Regs.vbar + 0x600#64)

end Sys2Proof.Machine
end

