-- ==== Sys2Proof/Machine/SysRegRead.lean ====
section
/-! DEFINITION. The System register read: the access check (R70, R72), the outcome (R73, R78) and the
meanings of the two encodings of the MRC (R71). -/

namespace Sys2Proof.Machine

/-- The access check (R72), with the tests of the source's pseudocode in their order (R70). `v` is
`value_read(cfg)`. -/
def access (v : Word) (c : Ctx) : Result :=
  match c.el with
  | .el0 => .raised .undefined
  | .el1 =>
    if c.el2Enabled && !c.el2UsingAArch32 && c.hstrEl2T0 then
      .raised (.a64SystemAccessTrap .el2 0x03#8)
    else if c.el2Enabled && c.el2UsingAArch32 && c.hstrT0 then
      .raised (.hypTrap 0x03#8)
    else if c.el2Enabled && !c.el2UsingAArch32 && c.hcrEl2Tid3 then
      .raised (.a64SystemAccessTrap .el2 0x03#8)
    else if c.el2Enabled && c.el2UsingAArch32 && c.hcrTid3 then
      .raised (.hypTrap 0x03#8)
    else .value v
  | .el2 => .value v
  | .el3 => .value v

/-- The outcome of one execution (R71, R73, R78). Where the condition fails and the access would raise
an exception, both `Nop` and the exception are admitted: FREE VALUE (log 4), the same whenever the
context is the same (R76). -/
def State.readResult (s : State) : Result :=
  match s.condPassed, access s.valueRead s.ctx with
  | true, r => r
  | false, .raised e => if Config.failedCondRaises s.ctx then .raised e else .nop
  | false, _ => .nop

/-- What the outcome does to the PE (R71, R78): `Value` writes `x[t]`, `Nop` writes nothing, and both
move to the next instruction; an exception writes no `x[t]` and hands the pc to exception entry. -/
def State.applyResult (s : State) (t : Fin 15) (r : Result) : State :=
  match r with
  | .value v => (s.writeReg t v).advancePc
  | .nop => s.advancePc
  | .raised e => s.takeException e t

/-- What every execution notes: the outcome, the flags it leaves (R71), and that its free values have
been drawn. -/
def State.noteResult (s : State) (r : Result) : State :=
  { s with
    lastResult := some r
    draws := s.draws + 1
    pstate := { s.pstate with flags := flagsAfter r s.pstate.flags } }

/-- One execution of the read of ID_ISAR5 into register `t` (R71). -/
def State.readInto (s : State) (t : Fin 15) : State :=
  (s.applyResult t s.readResult).noteResult s.readResult

/-- Row 1, the A32 encoding (R54, R71). The condition field is seen by the model only as
`ctx.cond_passed`, which the enclosing PE supplies (R51, R73). -/
def execMrcA1 (_cond : Cond) (rt : BitVec 4) (s : State) : Host.Outcome State Fault Refusal :=
  match destOf rt with
  | some t => .next (s.readInto t)
  | none => .refused .rtIs15

/-- Row 2, the T32 encoding (R55, R71). Conditional only by an IT block, seen as `ctx.cond_passed`. -/
def execMrcT1 (rt : BitVec 4) (s : State) : Host.Outcome State Fault Refusal :=
  match destOf rt with
  | some t => .next (s.readInto t)
  | none => .refused .rtIs15

end Sys2Proof.Machine
end

