-- ==== Sys2Proof/Syntax.lean ====
section
/-! DEFINITION. The instructions: one constructor per row of spec/opcode_table.json. Both rows are
the one instruction of the spec, `MRC{<c>}{<q>} p15, {#}0, <Rt>, c0, c2, {#}5` (R50, R71), in its
two encodings. -/

namespace Sys2Proof

/-- The decoded form `ReadID_ISAR5` of R56. The five coordinates are fixed (R52), so the operands
are the condition (A32 only) and the number in the Rt field. -/
inductive Instr where
  /-- Row 1, A32 encoding A1 (R54): `t := w[15:12]`, `cond := w[31:28]`. -/
  | mrcA1 (cond : Cond) (rt : BitVec 4)
  /-- Row 2, T32 encoding T1 (R55): `t := w[15:12]` of `w = hw1 : hw2`; no condition field. -/
  | mrcT1 (rt : BitVec 4)
deriving DecidableEq, Repr

/-- The Rt field of an instruction. -/
def Instr.rt : Instr → BitVec 4
  | .mrcA1 _ rt => rt
  | .mrcT1 rt => rt

/-- The instruction set an encoding belongs to (R53). -/
def Instr.iset : Instr → ISet
  | .mrcA1 _ _ => .a32
  | .mrcT1 _ => .t32

end Sys2Proof
end

