-- ==== Sys2Proof/Machine/Dispatch.lean ====
section
/-! DEFINITION. One arm per constructor of Instr. -/

namespace Sys2Proof.Machine

def exec (i : Instr) (s : State) : Host.Outcome State Fault Refusal :=
  match i with
  | .mrcA1 cond rt => Sys2Proof.Machine.execMrcA1 cond rt s
  | .mrcT1 rt => Sys2Proof.Machine.execMrcT1 rt s

end Sys2Proof.Machine
end

