-- ==== Sys2Proof/Decode.lean ====
section
/-! DEFINITION. The decoder, total on any bytes and rejecting by name, and after it the encoder,
both written from the encoding tables of 30_encoding.md (R52 to R57). -/

namespace Sys2Proof

/-- Why bytes give no instruction. -/
inductive DecodeError where
  /-- `NotThisSpec` (R56, R60, R61): the word is outside the spec. -/
  | notThisSpec
  /-- The list of bytes ends inside the instruction. -/
  | truncated
deriving DecidableEq, Repr

/-- The number of a condition (95_test_vectors.md 2.1). -/
def Cond.bits : Cond → BitVec 4
  | .eq => 0#4
  | .ne => 1#4
  | .cs => 2#4
  | .cc => 3#4
  | .mi => 4#4
  | .pl => 5#4
  | .vs => 6#4
  | .vc => 7#4
  | .hi => 8#4
  | .ls => 9#4
  | .ge => 10#4
  | .lt => 11#4
  | .gt => 12#4
  | .le => 13#4
  | .al => 14#4

/-- The condition with a number; 0b1111 belongs to a different instruction space (R54). -/
def Cond.ofBits (b : BitVec 4) : Option Cond :=
  match b.toNat with
  | 0 => some .eq
  | 1 => some .ne
  | 2 => some .cs
  | 3 => some .cc
  | 4 => some .mi
  | 5 => some .pl
  | 6 => some .vs
  | 7 => some .vc
  | 8 => some .hi
  | 9 => some .ls
  | 10 => some .ge
  | 11 => some .lt
  | 12 => some .gt
  | 13 => some .le
  | 14 => some .al
  | _ => none

/-- `w[31:28]`. -/
def condField (w : Word) : BitVec 4 :=
  w.extractLsb' 28 4

/-- `w[15:12]`, the Rt field of both layouts. -/
def rtField (w : Word) : BitVec 4 :=
  w.extractLsb' 12 4

/-- The decoder on a numeric word (R56); `none` is `NotThisSpec`. PRESUMED (log 8): the bit positions
of R54 and R55 are the spec's general knowledge. -/
def decodeWord (iset : ISet) (w : Word) : Option Instr :=
  match iset with
  | .a32 =>
    if w &&& 0x0FFF0FFF#32 = 0x0E100FB2#32 then
      (Cond.ofBits (condField w)).map fun c => .mrcA1 c (rtField w)
    else none
  | .t32 =>
    if w &&& 0xFFFF0FFF#32 = 0xEE100FB2#32 then some (.mrcT1 (rtField w)) else none

/-- A halfword from two bytes, the byte at the lower address first. PRESUMED (log 9). -/
def halfOfBytes (b0 b1 : Byte) : BitVec 16 :=
  b1 ++ b0

/-- An A32 word from four bytes in address order (R43: instruction fetch is little-endian). -/
def wordOfBytes (b0 b1 b2 b3 : Byte) : Word :=
  halfOfBytes b2 b3 ++ halfOfBytes b0 b1

/-- R53: hw1[15:11] of 0b11101, 0b11110 or 0b11111 starts a 32-bit T32 instruction. -/
def isWideT32 (hw1 : BitVec 16) : Bool :=
  29 ≤ (hw1.extractLsb' 11 5).toNat

/-- The instruction at the head of a list of bytes in address order, with the bytes after it. A T32
halfword that starts no 32-bit instruction is outside the spec by itself (R60). -/
def decode (iset : ISet) (bs : List Byte) : Except DecodeError (Instr × List Byte) :=
  match iset, bs with
  | .a32, b0 :: b1 :: b2 :: b3 :: rest =>
    match decodeWord .a32 (wordOfBytes b0 b1 b2 b3) with
    | some i => .ok (i, rest)
    | none => .error .notThisSpec
  | .a32, _ => .error .truncated
  | .t32, b0 :: b1 :: more =>
    if isWideT32 (halfOfBytes b0 b1) then
      match more with
      | b2 :: b3 :: rest =>
        match decodeWord .t32 (halfOfBytes b0 b1 ++ halfOfBytes b2 b3) with
        | some i => .ok (i, rest)
        | none => .error .notThisSpec
      | _ => .error .truncated
    else .error .notThisSpec
  | .t32, _ => .error .truncated

/-- The bytes of a halfword in address order. -/
def bytesOfHalf (h : BitVec 16) : List Byte :=
  [h.extractLsb' 0 8, h.extractLsb' 8 8]

/-- The bytes of a numeric instruction word in address order: an A32 word is one little-endian word,
a T32 pair is `hw1` then `hw2`, each little-endian (R43, R53). -/
def bytesOfWord (iset : ISet) (w : Word) : List Byte :=
  match iset with
  | .a32 => bytesOfHalf (w.extractLsb' 0 16) ++ bytesOfHalf (w.extractLsb' 16 16)
  | .t32 => bytesOfHalf (w.extractLsb' 16 16) ++ bytesOfHalf (w.extractLsb' 0 16)

/-- The encoder of R57. -/
def encode : Instr → Word
  | .mrcA1 c rt => (c.bits.setWidth 32 <<< 28) ||| 0x0E100FB2#32 ||| (rt.setWidth 32 <<< 12)
  | .mrcT1 rt => 0xEE100FB2#32 ||| (rt.setWidth 32 <<< 12)

/-- The bytes of an instruction in memory, in address order. -/
def encodeBytes (i : Instr) : List Byte :=
  bytesOfWord i.iset (encode i)

/-- The instruction set under which a word of the opcode table is read: T32 where it matches row 2,
A32 otherwise (log 10: the words of row 2 are also the A32 words with condition AL). -/
def tableISet (w : Word) : ISet :=
  if w &&& 0xFFFF0FFF#32 = 0xEE100FB2#32 then .t32 else .a32

/-- The numeric word of an opcode-table row, from `nbits` bits; the bits above are zero. -/
def tableWord (nbits w : Nat) : Word :=
  BitVec.ofNat 32 (w % 2 ^ nbits)

/-- What the decoder reads from an instruction whose bits are `w`, numbered as the opcode table
numbers them (row 2: hw1 in bits [31:16]). -/
def decodeTableWord (nbits w : Nat) : Option Instr :=
  match decode (tableISet (tableWord nbits w))
      (bytesOfWord (tableISet (tableWord nbits w)) (tableWord nbits w)) with
  | .ok (i, _) => some i
  | .error _ => none

end Sys2Proof
end

