-- ==== Sys2Proof/Machine/Fetch.lean ====
section
/-! DEFINITION. Fetching and decoding the next instruction, and placing one where the next step
fetches it (the composed model, D7, D10). -/

namespace Sys2Proof.Machine

/-- What stands at the program counter: an instruction, or why there is none. -/
inductive Fetched where
  | instr (i : Instr)
  | stuck (f : Fault)
  | outside (r : Refusal)
deriving DecidableEq, Repr

/-- Fetch and decode. In AArch64 state there is no instruction of this spec (R9). -/
def State.fetch (s : State) : Fetched :=
  match s.pstate.exState with
  | .aarch64 => .outside .aarch64State
  | .aarch32 =>
    if pcAligned s.pstate.iset s.pc then
      match decode s.pstate.iset s.fetchBytes with
      | .ok (i, _) => .instr i
      | .error .notThisSpec => .outside .notThisSpec
      | .error .truncated => .stuck s.fetchFault
    else .stuck .pcMisaligned

/-- Whether a 32-bit instruction can be fetched at a program counter. -/
def pcHoldsInstr (iset : ISet) (pc : Word) : Bool :=
  pcAligned iset pc && decide (pc.toNat + 4 ≤ memTop)

/-- The program counter that the placed instruction is fetched from: the machine's own where it can
be, else the multiple of 4 below it. -/
def placePc (iset : ISet) (pc : Word) : Word :=
  if pcHoldsInstr iset pc then pc else pc &&& 0xFFFFFFFC#32

/-- `s` with a numeric instruction word placed where the next step fetches. -/
def State.placeWord (s : State) (iset : ISet) (w : Word) : State :=
  { s with
    pstate := { s.pstate with exState := .aarch32, iset := iset }
    pc := placePc iset s.pc
    mem := Mem.writeList s.mem (placePc iset s.pc).toNat (bytesOfWord iset w) }

end Sys2Proof.Machine
end

