-- ==== Sys2Proof/WellFormed.lean ====
section
/-! DEFINITION. The one well-formedness check of an instruction. -/

namespace Sys2Proof

/-- `t` in 0 to 14 is admitted; `t = 15` decodes and is refused here, not by the decoder
(R56, R74, decision D6). A condition of 0b1111 cannot be written down in `Cond` (R54). -/
def Instr.wellFormed (i : Instr) : Bool :=
  i.rt != 15#4

end Sys2Proof
end

