-- ==== Sys2Proof/Machine/Step.lean ====
section
/-! DEFINITION. One step of the composed model: fetch, decode, the well-formedness check, exec, and
then the context the enclosing PE supplies for the next access (R5). -/

namespace Sys2Proof.Machine

/-- One step. The fetch at the pc and the supply are the composed model's: logs 9, 11 and 18. -/
def step (s : State) : Host.Outcome State Fault Refusal :=
  match s.fetch with
  | .stuck f => .fault f
  | .outside r => .refused r
  | .instr i =>
    if i.wellFormed then
      match exec i s with
      | .next t => .next t.supplyCtx
      | .fault f => .fault f
      | .refused r => .refused r
    else .refused .rtIs15

/-- `s` with the opcode-table word `w` of `nbits` bits where the next step fetches it, and the
instruction set under which the table's row is read (log 10). -/
def State.withFetchWord (s : State) (nbits w : Nat) : State :=
  s.placeWord (tableISet (tableWord nbits w)) (tableWord nbits w)

end Sys2Proof.Machine
end

