-- ==== Sys2Proof/Safety.lean ====
section
/-! DEFINITION. The terms in which claims are made: when a read is sure to succeed, when it traps, what
a step keeps, and how two runs are compared. -/

namespace Sys2Proof.Machine

/-- EL2 using AArch32 traps the read (R72, R81). -/
def Ctx.trapsToHyp (c : Ctx) : Bool :=
  c.el == .el1 && c.el2Enabled && c.el2UsingAArch32 && (c.hstrT0 || c.hcrTid3)

/-- EL2 using AArch64 traps the read (R72, R82). -/
def Ctx.trapsToA64 (c : Ctx) : Bool :=
  c.el == .el1 && c.el2Enabled && !c.el2UsingAArch32 && (c.hstrEl2T0 || c.hcrEl2Tid3)

/-- The read is allowed (R24): at EL1 unless EL2 traps it, and at EL2 and EL3. -/
def Ctx.readAllowed (c : Ctx) : Bool :=
  c.el != .el0 && !c.trapsToHyp && !c.trapsToA64

/-- What every step keeps. Memory is canonical. A value noted as the last outcome is ID_ISAR5 where the
register is present (R25, R47). The RES0 bits read as zero (R17) and the configuration is one that R23
permits; these last two hold of every State by construction (`Cfg.idIsar5`, `WfCfg`). -/
def State.Inv (s : State) : Prop :=
  Mem.wf s.mem = true ∧
  (∀ v, s.lastResult = some (.value v) → s.cfg.raw.aarch32AnyEl = true → v = s.idIsar5) ∧
  Field.res0.of s.idIsar5 = 0#4 ∧ s.cfg.raw.permitted = true

/-- The same outcome with a changed next state. -/
def mapNext (f : State → State) :
    Host.Outcome State Fault Refusal → Host.Outcome State Fault Refusal
  | .next s => .next (f s)
  | .fault r => .fault r
  | .refused r => .refused r

/-- `s` on a PE of another configuration. -/
def State.onPe (s : State) (c : WfCfg) : State :=
  { s with cfg := c }

/-- `t` is reached from `s` in `k` steps. -/
def Reaches : Nat → State → State → Prop
  | 0, s, t => s = t
  | k + 1, s, t => ∃ u, step s = .next u ∧ Reaches k u t

end Sys2Proof.Machine
end

