-- ==== Sys2Proof/Certificates/Slice0/Obligations.lean ====
section
/-! DEFINITION. The statements for the provers. Each names the rule of spec/ it formalises; a statement
that rests on a log entry says so. -/

open Sys2Proof Sys2Proof.Machine

/-! ### Encoding -/

/-- Words written out from R54 and R55 (95_test_vectors.md 2.1), A32 and T32, decode to the instruction
they stand for: three as numbers, and three as bytes. The vectors give words and halfwords; that their
bytes lie in memory in little-endian order is R43's general knowledge, PRESUMED (log 9), as the bit
positions are (log 8). -/
def Obligations.SpecWordsDecode : Prop :=
  decode .a32 [0xB2#8, 0x0F#8, 0x10#8, 0xEE#8] = .ok (.mrcA1 .al 0#4, []) ∧
  decode .a32 [0xB2#8, 0x5F#8, 0x10#8, 0x1E#8] = .ok (.mrcA1 .ne 5#4, []) ∧
  decode .t32 [0x10#8, 0xEE#8, 0xB2#8, 0x2F#8] = .ok (.mrcT1 2#4, []) ∧
  decodeWord .a32 0xDE10EFB2#32 = some (.mrcA1 .le 14#4) ∧
  decodeWord .t32 0xEE10DFB2#32 = some (.mrcT1 13#4) ∧
  decodeWord .t32 0x1E100FB2#32 = none

/-- The refused neighbours of 95_test_vectors.md 2.2 (R54, R60, R61), in both instruction sets. -/
def Obligations.NeighbourWordsRefused : Prop :=
  ∀ w ∈ [0xFE100FB2#32, 0xEE000FB2#32, 0xEE100F92#32, 0xEE100FF2#32, 0xEE100FB1#32, 0xEE100FB3#32,
      0xEE110FB2#32, 0xEE300FB2#32, 0xEE100EB2#32, 0xEE100FA2#32, 0xEF100FB2#32],
    decodeWord .a32 w = none ∧ decodeWord .t32 w = none

/-- R56: the decoder accepts exactly the words of the rule, gives their fields, answers `NotThisSpec`
for every other word, and leaves t = 15 to the well-formedness check. -/
def Obligations.DecoderAcceptsExactly : Prop :=
  ∀ (w : Word) (i : Instr),
    (decodeWord .a32 w = some i ↔
      w.extractLsb' 28 4 ≠ 15#4 ∧ w &&& 0x0FFF0FFF#32 = 0x0E100FB2#32 ∧
        ∃ c : Cond, c.bits = w.extractLsb' 28 4 ∧ i = .mrcA1 c (w.extractLsb' 12 4)) ∧
    (decodeWord .t32 w = some i ↔
      w &&& 0xFFFF0FFF#32 = 0xEE100FB2#32 ∧ i = .mrcT1 (w.extractLsb' 12 4)) ∧
    (∀ iset, decodeWord iset w = none → decode iset (bytesOfWord iset w) = .error .notThisSpec) ∧
    (i.wellFormed = false ↔ i.rt = 15#4)

/-- R57: the encoder's two formulas, `decode (encode i) = i` for every instruction with every operand
value, and `encode (decode w) = w` for every word the decoder accepts. -/
def Obligations.EncodeDecodeAgree : Prop :=
  (∀ (c : Cond) (t : BitVec 4),
    encode (.mrcA1 c t) = (c.bits.setWidth 32 <<< 28) ||| 0x0E100FB2#32 ||| (t.setWidth 32 <<< 12)) ∧
  (∀ t : BitVec 4, encode (.mrcT1 t) = 0xEE100FB2#32 ||| (t.setWidth 32 <<< 12)) ∧
  (∀ i : Instr, decodeWord i.iset (encode i) = some i) ∧
  (∀ (iset : ISet) (w : Word) (i : Instr), decodeWord iset w = some i → encode i = w ∧ i.iset = iset)

/-- The same at the level of bytes, with the bytes after the instruction left over (R53, R57; the
byte order is R43's general knowledge, log 9). -/
def Obligations.BytesRoundTrip : Prop :=
  ∀ (i : Instr) (rest : List Byte), decode i.iset (encodeBytes i ++ rest) = .ok (i, rest)

/-- R61: the MCR with the same five coordinates (bit 20 of the A32 word, bit 4 of hw1, clear) is
`NotThisSpec`. -/
def Obligations.WriteFormNotDecoded : Prop :=
  ∀ w : Word,
    (w &&& 0x0FFF0FFF#32 = 0x0E000FB2#32 →
      decodeWord .a32 w = none ∧ decode .a32 (bytesOfWord .a32 w) = .error .notThisSpec) ∧
    (w &&& 0xFFFF0FFF#32 = 0xEE000FB2#32 →
      decodeWord .t32 w = none ∧ decode .t32 (bytesOfWord .t32 w) = .error .notThisSpec)

/-! ### The step -/

/-- R60: a step that fetches any word other than those of R56 is refused. -/
def Obligations.OtherWordsRefused : Prop :=
  ∀ (s : State) (w : Word),
    s.pstate.exState = .aarch32 → pcAligned s.pstate.iset s.pc = true →
    s.fetchBytes = bytesOfWord s.pstate.iset w → decodeWord s.pstate.iset w = none →
    step s = .refused .notThisSpec

/-- R75: a step that fetches the write form is refused: neither a write, nor ignored, nor a NOP. -/
def Obligations.WriteFormRefused : Prop :=
  ∀ (s : State) (w : Word),
    s.pstate.exState = .aarch32 → pcAligned s.pstate.iset s.pc = true →
    s.fetchBytes = bytesOfWord s.pstate.iset w →
    (s.pstate.iset = .a32 ∧ w &&& 0x0FFF0FFF#32 = 0x0E000FB2#32 ∨
      s.pstate.iset = .t32 ∧ w &&& 0xFFFF0FFF#32 = 0xEE000FB2#32) →
    step s = .refused .notThisSpec

/-- Where the bytes at the program counter decode to a well-formed instruction, step is exec of it, and
then the context that the enclosing PE supplies for the next access. The spec has no instruction memory
(R49) and leaves the pc to the enclosing model (D7): fetching from memory at the pc, and putting a queued
context in effect, are the composed model's own design (logs 9, 11 and 18). -/
def Obligations.StepRunsDecodedInstr : Prop :=
  ∀ (s : State) (i : Instr) (rest : List Byte),
    s.pstate.exState = .aarch32 → pcAligned s.pstate.iset s.pc = true →
    decode s.pstate.iset s.fetchBytes = .ok (i, rest) → i.wellFormed = true →
    step s = mapNext State.supplyCtx (exec i s)

/-- A table word that decodes to a well-formed instruction is what the next step runs once placed. -/
def Obligations.PlacedWordRunsNext : Prop :=
  ∀ (s : State) (nbits w : Nat) (i : Instr),
    decodeTableWord nbits w = some i → i.wellFormed = true →
    step (s.withFetchWord nbits w) = mapNext State.supplyCtx (exec i (s.withFetchWord nbits w))

/-- In AArch64 state no instruction of this spec exists (R9). -/
def Obligations.AArch64StateRefused : Prop :=
  ∀ s : State, s.pstate.exState = .aarch64 → step s = .refused .aarch64State

/-- R44's alignment of instructions (the model's choice of a fault: log 9). -/
def Obligations.MisalignedPcFaults : Prop :=
  ∀ s : State, s.pstate.exState = .aarch32 →
    (s.pstate.iset = .a32 ∧ s.pc.toNat % 4 ≠ 0 ∨ s.pstate.iset = .t32 ∧ s.pc.toNat % 2 ≠ 0) →
    step s = .fault .pcMisaligned

/-- R5: at each access, one context: a step leaves the oldest supplied context in effect, and what is
supplied beside it: the mode, EL1's state and TGE. Where none is supplied the inputs stay. The queue,
and that these four come with the context, are the model's choice (log 18). -/
def Obligations.ContextSuppliedForNextAccess : Prop :=
  ∀ (s u : State) (p : Supply) (rest : List Supply),
    step s = .next u →
    (s.ctxQueue = p :: rest →
      u.ctx = p.ctx ∧ u.pstate.mode = p.mode ∧ u.el1UsingAArch32 = p.el1UsingAArch32 ∧
      u.el2.hcrTge = p.hcrTge ∧ u.el2.hcrEl2Tge = p.hcrEl2Tge ∧ u.ctxQueue = rest) ∧
    (s.ctxQueue = [] →
      u.ctxQueue = [] ∧ u.condPassed = s.condPassed ∧ u.el2 = s.el2 ∧
      u.el1UsingAArch32 = s.el1UsingAArch32)

/-! ### The access check -/

/-- R72: the access check in the order of the source's tests, and in its normal form. -/
def Obligations.AccessCheck : Prop :=
  ∀ (v : Word) (c : Ctx),
    access v c =
      (if c.el = .el0 then .raised .undefined
      else if c.el = .el1 then
        if c.el2Enabled = true ∧ c.el2UsingAArch32 = false ∧ c.hstrEl2T0 = true then
          .raised (.a64SystemAccessTrap .el2 0x03#8)
        else if c.el2Enabled = true ∧ c.el2UsingAArch32 = true ∧ c.hstrT0 = true then
          .raised (.hypTrap 0x03#8)
        else if c.el2Enabled = true ∧ c.el2UsingAArch32 = false ∧ c.hcrEl2Tid3 = true then
          .raised (.a64SystemAccessTrap .el2 0x03#8)
        else if c.el2Enabled = true ∧ c.el2UsingAArch32 = true ∧ c.hcrTid3 = true then
          .raised (.hypTrap 0x03#8)
        else .value v
      else .value v) ∧
    access v c =
      (if c.el = .el0 then .raised .undefined
      else if c.el = .el1 ∧ c.el2Enabled = true ∧ c.el2UsingAArch32 = false ∧
          (c.hstrEl2T0 = true ∨ c.hcrEl2Tid3 = true) then
        .raised (.a64SystemAccessTrap .el2 0x03#8)
      else if c.el = .el1 ∧ c.el2Enabled = true ∧ c.el2UsingAArch32 = true ∧
          (c.hstrT0 = true ∨ c.hcrTid3 = true) then
        .raised (.hypTrap 0x03#8)
      else .value v)

/-- R87: who can intercept whom, and no one else: EL0 is `Undefined`, EL1 is intercepted by EL2 alone,
EL2 and EL3 by nobody. -/
def Obligations.WhoInterceptsWhom : Prop :=
  ∀ (v : Word) (c : Ctx),
    (access v c = .raised .undefined ↔ c.el = .el0) ∧
    (access v c = .raised (.a64SystemAccessTrap .el2 0x03#8) ↔
      c.el = .el1 ∧ c.el2Enabled = true ∧ c.el2UsingAArch32 = false ∧
        (c.hstrEl2T0 = true ∨ c.hcrEl2Tid3 = true)) ∧
    (access v c = .raised (.hypTrap 0x03#8) ↔
      c.el = .el1 ∧ c.el2Enabled = true ∧ c.el2UsingAArch32 = true ∧
        (c.hstrT0 = true ∨ c.hcrTid3 = true)) ∧
    (c.el = .el2 ∨ c.el = .el3 → access v c = .value v) ∧
    (∀ e, access v c = .raised e →
      e = .undefined ∨ e = .a64SystemAccessTrap .el2 0x03#8 ∨ e = .hypTrap 0x03#8)

/-- R72, points 1 to 4: what the access check does not look at cannot change its answer. -/
def Obligations.UnconsultedControlsIrrelevant : Prop :=
  ∀ (v : Word) (c d : Ctx),
    c.el = d.el →
    (c.el = .el1 → c.el2Enabled = d.el2Enabled ∧
      (c.el2Enabled = true → c.el2UsingAArch32 = d.el2UsingAArch32 ∧
        (c.el2UsingAArch32 = true → c.hstrT0 = d.hstrT0 ∧ c.hcrTid3 = d.hcrTid3) ∧
        (c.el2UsingAArch32 = false → c.hstrEl2T0 = d.hstrEl2T0 ∧ c.hcrEl2Tid3 = d.hcrEl2Tid3))) →
    access v c = access v d

/-! ### The read -/

/-- R71, both encodings: a read that is allowed, with its condition passed, writes the value to the
current mode's copy of Rt, moves the program counter 4 bytes on (log 12), and does nothing else. -/
def Obligations.AllowedReadCompletes : Prop :=
  ∀ (s : State) (c : Cond) (t : Fin 15),
    s.condPassed = true → s.ctx.readAllowed = true →
    exec (.mrcA1 c (rtOf t)) s = .next
      { s with
        gpr := s.gpr.set (s.regIndex t) s.valueRead
        pc := s.pc + 4#32
        lastResult := some (.value s.valueRead)
        draws := s.draws + 1 } ∧
    exec (.mrcT1 (rtOf t)) s = .next
      { s with
        gpr := s.gpr.set (s.regIndex t) s.valueRead
        pc := s.pc + 4#32
        lastResult := some (.value s.valueRead)
        draws := s.draws + 1 }

/-- R11, R14, R71: where the register is present, every field of what an allowed read leaves in Rt is
the configuration's, the RES0 bits zero. -/
def Obligations.ReadGivesEveryField : Prop :=
  ∀ (s : State) (c : Cond) (t : Fin 15),
    s.condPassed = true → s.ctx.readAllowed = true → s.cfg.raw.aarch32AnyEl = true →
    ∃ u, exec (.mrcA1 c (rtOf t)) s = .next u ∧ exec (.mrcT1 (rtOf t)) s = .next u ∧
      (u.readReg t).extractLsb' 28 4 = s.cfg.raw.vcma ∧
      (u.readReg t).extractLsb' 24 4 = s.cfg.raw.rdm ∧
      (u.readReg t).extractLsb' 20 4 = 0#4 ∧
      (u.readReg t).extractLsb' 16 4 = s.cfg.raw.crc32 ∧
      (u.readReg t).extractLsb' 12 4 = s.cfg.raw.sha2 ∧
      (u.readReg t).extractLsb' 8 4 = s.cfg.raw.sha1 ∧
      (u.readReg t).extractLsb' 4 4 = s.cfg.raw.aes ∧
      (u.readReg t).extractLsb' 0 4 = s.cfg.raw.sevl

/-- R77: where AArch32 is supported at no Exception level the access check is unchanged and the value
is a free draw, fresh at each read. -/
def Obligations.AbsentRegisterGivesDraw : Prop :=
  ∀ (s : State) (c : Cond) (t : Fin 15),
    s.condPassed = true → s.ctx.readAllowed = true → s.cfg.raw.aarch32AnyEl = false →
    ∃ u, exec (.mrcA1 c (rtOf t)) s = .next u ∧ exec (.mrcT1 (rtOf t)) s = .next u ∧
      u.readReg t = Config.unknown32 s.draws ∧ u.valueRead = Config.unknown32 (s.draws + 1)

/-- R73: the condition passed, the outcome is the access's; failed, it is `Nop` where the access is a
`Value`, and both `Nop` and the exception are admitted where the access raises one. R73 says no more than
that; that the outcome there is a free Boolean, a function of the context alone (third clause), is the
MODEL'S CHOICE (log 4, DEDUCED from R76 and D8). In every state that outcome is the outcome of exec, in
either encoding; and on `Nop` no register is written. -/
def Obligations.FailedConditionAdmitsBoth : Prop :=
  ∀ s : State,
    (s.condPassed = true → s.readResult = access s.valueRead s.ctx) ∧
    (s.condPassed = false → ∀ v, access s.valueRead s.ctx = .value v → s.readResult = .nop) ∧
    (s.condPassed = false → ∀ e, access s.valueRead s.ctx = .raised e →
      s.readResult = if Config.failedCondRaises s.ctx then .raised e else .nop) ∧
    (∀ (c : Cond) (t : Fin 15), ∃ u,
      exec (.mrcA1 c (rtOf t)) s = .next u ∧ exec (.mrcT1 (rtOf t)) s = .next u ∧
        u.lastResult = some s.readResult ∧ (s.readResult = .nop → u.gpr = s.gpr))

/-- R73, at exec: a failed condition where the read is allowed moves to the next instruction (log 12)
and does nothing else. -/
def Obligations.FailedConditionIsNop : Prop :=
  ∀ (s : State) (c : Cond) (t : Fin 15),
    s.condPassed = false → s.ctx.readAllowed = true →
    exec (.mrcA1 c (rtOf t)) s = .next
      { s with pc := s.pc + 4#32, lastResult := some .nop, draws := s.draws + 1 } ∧
    exec (.mrcT1 (rtOf t)) s = .next
      { s with pc := s.pc + 4#32, lastResult := some .nop, draws := s.draws + 1 }

/-- R78: one execution has exactly one of the outcomes, with that outcome's effect: `Value` writes `x[t]`
and nothing else, `Nop` arises only from a failed condition and writes nothing, an exception keeps
`x[t]`; the refused outcome is Rt = 15. (The program counter, R37, and the model's own record of the
outcome and count of draws are put back before the comparison.) -/
def Obligations.OutcomeEffects : Prop :=
  ∀ (i : Instr) (s : State),
    (i.rt = 15#4 ∧ exec i s = .refused .rtIs15) ∨
    ∃ t u, i.rt = rtOf t ∧ exec i s = .next u ∧
      ((∃ v, u.lastResult = some (.value v) ∧
          { u with pc := s.pc, lastResult := s.lastResult, draws := s.draws } =
            { s with gpr := s.gpr.set (s.regIndex t) v }) ∨
       (u.lastResult = some .nop ∧ s.condPassed = false ∧
          { u with pc := s.pc, lastResult := s.lastResult, draws := s.draws } = s) ∨
       (∃ e, u.lastResult = some (.raised e) ∧
          (e = .undefined ∨ e = .hypTrap 0x03#8 ∨ e = .a64SystemAccessTrap .el2 0x03#8) ∧
          u.gpr.get (s.regIndex t) = s.gpr.get (s.regIndex t)))

/-- R86: on an exception the instruction has had no effect, `x[t]` and ID_ISAR5 unchanged; on `Value`
it has had its whole effect, `x[t] <- v` and nothing else (the program counter, and the model's record
of the outcome and count of draws, put back). -/
def Obligations.ExceptionsArePrecise : Prop :=
  ∀ (i : Instr) (s u : State) (t : Fin 15),
    i.rt = rtOf t → exec i s = .next u →
    (∀ e, u.lastResult = some (.raised e) →
      u.gpr.get (s.regIndex t) = s.gpr.get (s.regIndex t) ∧ u.idIsar5 = s.idIsar5) ∧
    (∀ v, u.lastResult = some (.value v) →
      { u with pc := s.pc, lastResult := s.lastResult, draws := s.draws } =
        { s with gpr := s.gpr.set (s.regIndex t) v })

/-- R74: t in 0 to 14, SP and LR included, is a plain write of the current mode's copy; t = 15 decodes,
fails the well-formedness check, and is refused. -/
def Obligations.DestinationCorners : Prop :=
  (∀ (s : State) (c : Cond) (t : Fin 15) (v : Word), s.readResult = .value v →
    ∃ u, exec (.mrcA1 c (rtOf t)) s = .next u ∧ exec (.mrcT1 (rtOf t)) s = .next u ∧
      u.readReg t = v ∧ u.gpr = s.gpr.set (s.regIndex t) v) ∧
  (∀ (s : State) (c : Cond),
    exec (.mrcA1 c 15#4) s = .refused .rtIs15 ∧ exec (.mrcT1 15#4) s = .refused .rtIs15) ∧
  (∀ c : Cond, decodeWord .a32 (encode (.mrcA1 c 15#4)) = some (.mrcA1 c 15#4) ∧
    (Instr.mrcA1 c 15#4).wellFormed = false) ∧
  decodeWord .t32 (encode (.mrcT1 15#4)) = some (.mrcT1 15#4) ∧
  (Instr.mrcT1 15#4).wellFormed = false

/-- The frame of every execution: the configuration, EL2's controls, the inputs, N, Z, C and V, and every
byte of memory are unchanged; so is every register copy but the destination's and, where an
`Undefined` is taken, LR of Undefined mode (log 16); and the vector bases. R71 says that an exception
changes PSTATE and goes on by entry, which the spec does not describe: that N, Z, C, V and the other
register copies stay as they were through entry too is the model's choice (log 13, DEDUCED). -/
def Obligations.ReadFrame : Prop :=
  ∀ (i : Instr) (s u : State) (t : Fin 15),
    i.rt = rtOf t → exec i s = .next u →
    u.cfg = s.cfg ∧ u.el2 = s.el2 ∧ u.el1UsingAArch32 = s.el1UsingAArch32 ∧
    u.condPassed = s.condPassed ∧ u.ctxQueue = s.ctxQueue ∧ u.pstate.flags = s.pstate.flags ∧
    (∀ a, Mem.read u.mem a = Mem.read s.mem a) ∧
    (∀ j : Fin 33, j ≠ s.regIndex t →
      (u.lastResult = some (.raised .undefined) → j ≠ physIndex .undefined 14) →
      u.gpr.get j = s.gpr.get j) ∧
    u.hypRegs.hvbar = s.hypRegs.hvbar ∧ u.el2Regs.vbar = s.el2Regs.vbar ∧
    u.el1Regs.vectorBase = s.el1Regs.vectorBase

/-- The exception registers and PSTATE: unchanged unless an exception is raised, and then only those of
the entry taken change. An `Undefined` enters one of four ways, by TGE, EL2's state and EL1's state. Which
registers an entry writes is PRESUMED (log 13). -/
def Obligations.ExceptionRegistersFrame : Prop :=
  ∀ (i : Instr) (s u : State), exec i s = .next u →
    ((∀ e, u.lastResult ≠ some (.raised e)) →
      u.pstate = s.pstate ∧ u.hypRegs = s.hypRegs ∧ u.el2Regs = s.el2Regs ∧
      u.el1Regs = s.el1Regs ∧ u.returnAddress = s.returnAddress ∧ u.pc64 = s.pc64 ∧
      u.pc = s.pc + 4#32) ∧
    (∀ ec, u.lastResult = some (.raised (.hypTrap ec)) →
      u.el2Regs = s.el2Regs ∧ u.el1Regs = s.el1Regs ∧ u.pc64 = s.pc64 ∧ u.gpr = s.gpr) ∧
    (∀ level ec, u.lastResult = some (.raised (.a64SystemAccessTrap level ec)) →
      u.hypRegs = s.hypRegs ∧ u.el1Regs = s.el1Regs ∧ u.pc = s.pc ∧ u.gpr = s.gpr ∧
      u.pstate.mode = s.pstate.mode ∧ u.pstate.iset = s.pstate.iset) ∧
    (u.lastResult = some (.raised .undefined) →
      (s.tgeRoutes = true → s.el2.usingAArch32 = true →
        u.el2Regs = s.el2Regs ∧ u.el1Regs = s.el1Regs ∧ u.pc64 = s.pc64 ∧ u.gpr = s.gpr) ∧
      (s.tgeRoutes = true → s.el2.usingAArch32 = false →
        u.hypRegs = s.hypRegs ∧ u.el1Regs = s.el1Regs ∧ u.pc = s.pc ∧ u.gpr = s.gpr ∧
        u.pstate.mode = s.pstate.mode ∧ u.pstate.iset = s.pstate.iset) ∧
      (s.tgeRoutes = false → s.el1UsingAArch32 = true →
        u.hypRegs = s.hypRegs ∧ u.el2Regs = s.el2Regs ∧ u.el1Regs = s.el1Regs ∧
        u.pc64 = s.pc64) ∧
      (s.tgeRoutes = false → s.el1UsingAArch32 = false →
        u.hypRegs = s.hypRegs ∧ u.el2Regs = s.el2Regs ∧ u.pc = s.pc ∧ u.gpr = s.gpr ∧
        u.pstate.mode = s.pstate.mode ∧ u.pstate.iset = s.pstate.iset))

/-- The condition field and the encoding make no difference but through `ctx.cond_passed`
(R51, R55, R73). -/
def Obligations.EncodingsAgree : Prop :=
  ∀ (s : State) (c d : Cond) (rt : BitVec 4),
    exec (.mrcA1 c rt) s = exec (.mrcT1 rt) s ∧ exec (.mrcA1 c rt) s = exec (.mrcA1 d rt) s

/-- R102: an EL1 read is sure to succeed once the applicable T0 and TID3 bits are 0 where EL2 is
enabled; at EL2 and EL3 nothing is required. -/
def Obligations.BootRequirement : Prop :=
  ∀ (s : State) (c : Cond) (t : Fin 15),
    s.condPassed = true →
    (s.pstate.el = .el2 ∨ s.pstate.el = .el3 ∨
      s.pstate.el = .el1 ∧ (s.el2.enabled = true →
        (s.el2.usingAArch32 = true → s.el2.hstrT0 = false ∧ s.el2.hcrTid3 = false) ∧
        (s.el2.usingAArch32 = false → s.el2.hstrEl2T0 = false ∧ s.el2.hcrEl2Tid3 = false))) →
    ∃ u, exec (.mrcA1 c (rtOf t)) s = .next u ∧ exec (.mrcT1 (rtOf t)) s = .next u ∧
      u.lastResult = some (.value s.valueRead) ∧ u.readReg t = s.valueRead

/-! ### Exceptions -/

/-- R81: the trap to Hyp mode: when the outcome is that trap, and the entry wherever it is, after a failed
condition too (R73). The entry itself (HSR, ELR_hyp, SPSR_hyp, the vector) is the spec's general
knowledge, PRESUMED in logs 13 and 15. -/
def Obligations.HypTrapTaken : Prop :=
  ∀ (s : State) (c : Cond) (t : Fin 15),
    (s.condPassed = true → s.pstate.el = .el1 → s.el2.enabled = true →
      s.el2.usingAArch32 = true → (s.el2.hstrT0 = true ∨ s.el2.hcrTid3 = true) →
      s.readResult = .raised (.hypTrap 0x03#8)) ∧
    (s.readResult = .raised (.hypTrap 0x03#8) →
      ∃ u, exec (.mrcA1 c (rtOf t)) s = .next u ∧ exec (.mrcT1 (rtOf t)) s = .next u ∧
        u.lastResult = some (.raised (.hypTrap 0x03#8)) ∧ u.gpr = s.gpr ∧
        u.pstate.el = .el2 ∧ u.pstate.mode = .hyp ∧ u.pstate.exState = .aarch32 ∧
        u.pc = s.hypRegs.hvbar + 0x14#32 ∧ u.hypRegs.elr = s.pc ∧ u.hypRegs.spsr = s.pstate ∧
        u.returnAddress = s.pc ∧
        u.hypRegs.hsr.extractLsb' 26 6 = 0x03#6 ∧ u.hypRegs.hsr.extractLsb' 25 1 = 1#1 ∧
        u.hypRegs.hsr.extractLsb' 17 3 = 5#3 ∧ u.hypRegs.hsr.extractLsb' 14 3 = 0#3 ∧
        u.hypRegs.hsr.extractLsb' 10 4 = 0#4 ∧ u.hypRegs.hsr.extractLsb' 9 1 = 0#1 ∧
        u.hypRegs.hsr.extractLsb' 5 4 = rtOf t ∧ u.hypRegs.hsr.extractLsb' 1 4 = 2#4 ∧
        u.hypRegs.hsr.extractLsb' 0 1 = 1#1)

/-- R82: the trap to EL2 using AArch64: when the outcome is that trap, and the entry wherever it is, after
a failed condition too (R73). The entry itself (ESR_EL2, ELR_EL2, SPSR_EL2, the vector) is the spec's
general knowledge, PRESUMED in logs 13 and 15. -/
def Obligations.A64TrapTaken : Prop :=
  ∀ (s : State) (c : Cond) (t : Fin 15),
    (s.condPassed = true → s.pstate.el = .el1 → s.el2.enabled = true →
      s.el2.usingAArch32 = false → (s.el2.hstrEl2T0 = true ∨ s.el2.hcrEl2Tid3 = true) →
      s.readResult = .raised (.a64SystemAccessTrap .el2 0x03#8)) ∧
    (s.readResult = .raised (.a64SystemAccessTrap .el2 0x03#8) →
      ∃ u, exec (.mrcA1 c (rtOf t)) s = .next u ∧ exec (.mrcT1 (rtOf t)) s = .next u ∧
        u.lastResult = some (.raised (.a64SystemAccessTrap .el2 0x03#8)) ∧ u.gpr = s.gpr ∧
        u.pstate.el = .el2 ∧ u.pstate.exState = .aarch64 ∧
        u.pc64 = s.el2Regs.vbar + 0x600#64 ∧ u.el2Regs.elr = s.pc.setWidth 64 ∧
        u.el2Regs.spsr = s.pstate ∧ u.returnAddress = s.pc ∧
        u.el2Regs.esr.extractLsb' 26 6 = 0x03#6 ∧ u.el2Regs.esr.extractLsb' 25 1 = 1#1 ∧
        u.el2Regs.esr.extractLsb' 17 3 = 5#3 ∧ u.el2Regs.esr.extractLsb' 14 3 = 0#3 ∧
        u.el2Regs.esr.extractLsb' 10 4 = 0#4 ∧
        ((s.regIndex t).val < 15 → u.el2Regs.esr.extractLsb' 5 5 = (rtOf t).setWidth 5) ∧
        u.el2Regs.esr.extractLsb' 1 4 = 2#4 ∧ u.el2Regs.esr.extractLsb' 0 1 = 1#1)

/-- R80: an EL0 read is `Undefined`, whatever EL2's trap bits are; and an `Undefined`, after a failed
condition too (R73), is taken to Undefined mode at EL1 where EL1 uses AArch32 and TGE does not route it.
The entry itself is PRESUMED (logs 13 and 16). -/
def Obligations.UndefinedTakenToUndefinedMode : Prop :=
  ∀ (s : State) (c : Cond) (t : Fin 15),
    (s.condPassed = true → s.pstate.el = .el0 → s.readResult = .raised .undefined) ∧
    (s.readResult = .raised .undefined → s.tgeRoutes = false → s.el1UsingAArch32 = true →
      ∃ u, exec (.mrcA1 c (rtOf t)) s = .next u ∧ exec (.mrcT1 (rtOf t)) s = .next u ∧
        u.lastResult = some (.raised .undefined) ∧
        u.gpr.get (s.regIndex t) = s.gpr.get (s.regIndex t) ∧
        u.pstate.el = .el1 ∧ u.pstate.mode = .undefined ∧ u.pstate.exState = .aarch32 ∧
        u.pc = s.el1Regs.vectorBase + 0x04#32 ∧ u.returnAddress = s.pc ∧
        u.hypRegs = s.hypRegs ∧ u.el2Regs = s.el2Regs ∧ u.el1Regs = s.el1Regs ∧
        u.pc64 = s.pc64)

/-- R80: an `Undefined`, from EL0 and after a failed condition too (R73), is taken to EL1 with
ESR_EL1.EC = 0x00 where EL1 uses AArch64 and TGE does not route it. The entry itself is PRESUMED (logs 13
and 16). -/
def Obligations.UndefinedTakenToEl1A64 : Prop :=
  ∀ (s : State) (c : Cond) (t : Fin 15),
    (s.condPassed = true → s.pstate.el = .el0 → s.readResult = .raised .undefined) ∧
    (s.readResult = .raised .undefined → s.tgeRoutes = false → s.el1UsingAArch32 = false →
      ∃ u, exec (.mrcA1 c (rtOf t)) s = .next u ∧ exec (.mrcT1 (rtOf t)) s = .next u ∧
        u.lastResult = some (.raised .undefined) ∧ u.gpr = s.gpr ∧
        u.pstate.el = .el1 ∧ u.pstate.exState = .aarch64 ∧
        u.el1Regs.esr.extractLsb' 26 6 = 0x00#6 ∧ u.returnAddress = s.pc ∧
        u.hypRegs = s.hypRegs ∧ u.el2Regs = s.el2Regs ∧ u.pc = s.pc)

/-- R80: TGE routes an `Undefined`, from EL0 and after a failed condition too (R73), to EL2 in EL2's own
execution state. The entry itself, and that TGE counts only where EL2 is enabled, are PRESUMED (logs 13
and 16). -/
def Obligations.UndefinedRoutedByTge : Prop :=
  ∀ (s : State) (c : Cond) (t : Fin 15),
    (s.condPassed = true → s.pstate.el = .el0 → s.readResult = .raised .undefined) ∧
    (s.readResult = .raised .undefined → s.el2.enabled = true →
      (s.el2.usingAArch32 = true → s.el2.hcrTge = true →
        ∃ u, exec (.mrcA1 c (rtOf t)) s = .next u ∧ exec (.mrcT1 (rtOf t)) s = .next u ∧
          u.lastResult = some (.raised .undefined) ∧ u.gpr = s.gpr ∧
          u.pstate.el = .el2 ∧ u.pstate.mode = .hyp ∧ u.pstate.exState = .aarch32 ∧
          u.hypRegs.elr = s.pc ∧ u.hypRegs.spsr = s.pstate ∧ u.returnAddress = s.pc ∧
          u.el2Regs = s.el2Regs ∧ u.el1Regs = s.el1Regs ∧ u.pc64 = s.pc64) ∧
      (s.el2.usingAArch32 = false → s.el2.hcrEl2Tge = true →
        ∃ u, exec (.mrcA1 c (rtOf t)) s = .next u ∧ exec (.mrcT1 (rtOf t)) s = .next u ∧
          u.lastResult = some (.raised .undefined) ∧ u.gpr = s.gpr ∧
          u.pstate.el = .el2 ∧ u.pstate.exState = .aarch64 ∧
          u.el2Regs.elr = s.pc.setWidth 64 ∧ u.el2Regs.spsr = s.pstate ∧
          u.returnAddress = s.pc ∧
          u.hypRegs = s.hypRegs ∧ u.el1Regs = s.el1Regs ∧ u.pc = s.pc))

/-- MODEL'S CHOICE (logs 13 and 18): where no context is queued, a step changes the Exception level only by
an exception, and only to a higher one: EL0 to EL1 or EL2, EL1 to EL2. R90 does not say how a level is
entered or left and `ctx.EL` is an input: that the level stays where no context is supplied is log 18
(unsafe for a claim that assumes an empty queue), and where an exception goes is PRESUMED (log 13). -/
def Obligations.LevelRisesOnlyByException : Prop :=
  ∀ s u : State, s.ctxQueue = [] → step s = .next u →
    u.pstate.el = s.pstate.el ∧ (∀ e, u.lastResult ≠ some (.raised e)) ∨
    (∃ e, u.lastResult = some (.raised e)) ∧
      (s.pstate.el = .el0 ∧ (u.pstate.el = .el1 ∨ u.pstate.el = .el2) ∨
        s.pstate.el = .el1 ∧ u.pstate.el = .el2)

/-! ### Repetition, constancy, isolation -/

/-- R76: executing the read twice in the same context gives the same outcome twice, whatever the registers
and whatever lies between (a failed condition included: log 4); and where the read is allowed, two reads
in a row leave the two registers equal, and the second read of one register as after the first. -/
def Obligations.RepeatedReadsAgree : Prop :=
  (∀ (s s' : State) (c d : Cond) (t t' : Fin 15),
    s.cfg.raw.aarch32AnyEl = true → s'.cfg = s.cfg → s'.ctx = s.ctx →
    ∃ u u', exec (.mrcA1 c (rtOf t)) s = .next u ∧ exec (.mrcT1 (rtOf t)) s = .next u ∧
      exec (.mrcA1 d (rtOf t')) s' = .next u' ∧ exec (.mrcT1 (rtOf t')) s' = .next u' ∧
      u.lastResult = some s.readResult ∧ u'.lastResult = u.lastResult) ∧
  (∀ (s : State) (c d : Cond) (t t' : Fin 15),
    s.condPassed = true → s.ctx.readAllowed = true → s.cfg.raw.aarch32AnyEl = true →
    ∃ u w, exec (.mrcA1 c (rtOf t)) s = .next u ∧ exec (.mrcA1 d (rtOf t')) u = .next w ∧
      exec (.mrcT1 (rtOf t)) s = .next u ∧ exec (.mrcT1 (rtOf t')) u = .next w ∧
      u.lastResult = w.lastResult ∧ w.readReg t = w.readReg t' ∧ w.readReg t = u.readReg t ∧
      (t = t' → w.gpr = u.gpr))

/-- R47: any two successful reads on one PE, at any distance and whatever the steps and the supplied
contexts between them, give the same value, and no step is a memory access. -/
def Obligations.ReadsAgreeAtAnyDistance : Prop :=
  ∀ (k : Nat) (s u : State), s.cfg.raw.aarch32AnyEl = true → Reaches k s u →
    (∀ v v', s.readResult = .value v → u.readResult = .value v' → v = v') ∧ u.mem = s.mem

/-- What every step keeps. Where memory is canonical, and a value noted is ID_ISAR5, so it is after a step
(the RES0 bits, R17, and a configuration that R23 permits hold of every State by construction). And from any state at all a step changes neither
the configuration, so not ID_ISAR5 (R25), nor a byte of memory (R42), nor N, Z, C and V, nor a vector
base, and counts one instruction (logs 13 and 23: flags and vector bases through exception entry, and the
count, are the model's own). -/
def Obligations.StepKeepsInv : Prop :=
  ∀ s u : State, step s = .next u →
    (s.Inv → u.Inv) ∧
    u.cfg = s.cfg ∧ u.idIsar5 = s.idIsar5 ∧ u.mem = s.mem ∧ u.pstate.flags = s.pstate.flags ∧
    u.hypRegs.hvbar = s.hypRegs.hvbar ∧ u.el2Regs.vbar = s.el2Regs.vbar ∧
    u.el1Regs.vectorBase = s.el1Regs.vectorBase ∧
    u.draws = s.draws + 1 ∧ u.lastResult ≠ none

/-- The invariant holds right after reset. -/
def Obligations.ResetMeetsInv : Prop :=
  State.reset.Inv

/-- Isolation: a context from which the read is not allowed (EL0, or EL1 trapped by EL2: R24) learns
nothing of ID_ISAR5. The same state on a PE of any other configuration steps to the same state, the
configuration apart. It rests on the model's choice that what is open of an exception's entry (logs 14,
15 and 16) is a free value of the count of draws, and of a failed condition (log 4) one of the context,
neither a function of the configuration. -/
def Obligations.DisallowedReadLearnsNothing : Prop :=
  ∀ (s : State) (c : WfCfg), s.ctx.readAllowed = false →
    step (s.onPe c) = mapNext (fun u => u.onPe c) (step s)

/-! ### The register -/

/-- R11: ID_ISAR5 is the concatenation of its fields, VCMA in the most significant four bits. -/
def Obligations.RegisterLayout : Prop :=
  ∀ c : Cfg,
    c.idIsar5.toNat = c.vcma.toNat * 2 ^ 28 + c.rdm.toNat * 2 ^ 24 + c.crc32.toNat * 2 ^ 16 +
      c.sha2.toNat * 2 ^ 12 + c.sha1.toNat * 2 ^ 8 + c.aes.toNat * 2 ^ 4 + c.sevl.toNat ∧
    c.idIsar5.extractLsb' 20 4 = 0#4

/-- R14: extraction by shift and by mask, the masks disjoint with union 0xFFFFFFFF, and the eight fields
determining the value. -/
def Obligations.FieldExtraction : Prop :=
  (∀ (f : Field) (v : Word),
    (f.of v).setWidth 32 = (v >>> f.lo) &&& 0xF#32 ∧
    v &&& f.mask = (f.of v).setWidth 32 <<< f.lo) ∧
  (∀ f g : Field, f ≠ g → f.mask &&& g.mask = 0#32) ∧
  Field.vcma.mask ||| Field.rdm.mask ||| Field.res0.mask ||| Field.crc32.mask ||| Field.sha2.mask |||
    Field.sha1.mask ||| Field.aes.mask ||| Field.sevl.mask = 0xFFFFFFFF#32 ∧
  (∀ v v' : Word, v = v' ↔ ∀ f : Field, f.of v = f.of v')

/-- R23: a configuration is given a meaning exactly where it meets the predicate; and for each version
how many values there are, the smallest and the largest. -/
def Obligations.PermittedValues : Prop :=
  (∀ c : Cfg,
    ((Cfg.check c).isSome = true ↔
      (c.vcma = 1#4 ∨ c.archMinor < 3 ∧ c.vcma = 0#4) ∧
      (c.rdm = 1#4 ∨ c.archMinor < 1 ∧ c.rdm = 0#4) ∧
      (c.crc32 = 1#4 ∨ c.archMinor < 1 ∧ c.crc32 = 0#4) ∧
      (c.sha2 = 0#4 ∨ c.sha2 = 1#4) ∧ (c.sha1 = 0#4 ∨ c.sha1 = 1#4) ∧
      (c.aes = 0#4 ∨ c.aes = 2#4) ∧ c.sevl = 1#4) ∧
    (∀ w, Cfg.check c = some w → w.raw = c) ∧ c.idIsar5.extractLsb' 20 4 = 0#4) ∧
  ∀ n : Nat, ∃ l : List Word,
    (∀ v, v ∈ l ↔ ∃ w : WfCfg, w.raw.archMinor = n ∧ w.raw.idIsar5 = v) ∧
    l.Nodup ∧
    l.length = (if n = 0 then 64 else if n < 3 then 16 else 8) ∧
    (if n = 0 then 0x00000001#32 else if n < 3 then 0x01010001#32 else 0x11010001#32) ∈ l ∧
    0x11011121#32 ∈ l ∧
    ∀ v ∈ l, (if n = 0 then 0x00000001#32 else if n < 3 then 0x01010001#32 else 0x11010001#32) ≤ v ∧
      v ≤ 0x11011121#32

/-- R27: what a program may conclude, read off the register's value. -/
def Obligations.FeaturesFromValue : Prop :=
  ∀ c : Cfg,
    (c.has .vcmlaVcadd = true ↔ c.idIsar5 &&& 0xF0000000#32 = 0x10000000#32) ∧
    (c.has .vqrdmlahVqrdmlsh = true ↔ c.idIsar5 &&& 0x0F000000#32 = 0x01000000#32) ∧
    (c.has .crc32Instrs = true ↔ c.idIsar5 &&& 0x000F0000#32 = 0x00010000#32) ∧
    (c.has .sha256Instrs = true ↔ c.idIsar5 &&& 0x0000F000#32 = 0x00001000#32) ∧
    (c.has .sha1Instrs = true ↔ c.idIsar5 &&& 0x00000F00#32 = 0x00000100#32) ∧
    (c.has .aesInstrs = true ↔ c.idIsar5 &&& 0x000000F0#32 = 0x00000010#32 ∨
      c.idIsar5 &&& 0x000000F0#32 = 0x00000020#32) ∧
    (c.has .polynomialVmull64 = true ↔ c.idIsar5 &&& 0x000000F0#32 = 0x00000020#32) ∧
    (c.has .sevlSendsEvent = true ↔ c.idIsar5 &&& 0x0000000F#32 = 0x00000001#32) ∧
    (c.has .sevlIsNop = true ↔ c.idIsar5 &&& 0x0000000F#32 = 0x00000000#32)

/-- R13: in every state a read of bits [31:0] of ID_ISAR5_EL1 gives what a read of ID_ISAR5 gives: the
register where it is present; where it is absent, the same UNKNOWN draw (R12; log 17, DEDUCED). -/
def Obligations.MappedToEl1View : Prop :=
  ∀ s : State, s.idIsar5El1Low = s.valueRead ∧
    (s.cfg.raw.aarch32AnyEl = true → s.idIsar5El1Low = s.idIsar5) ∧
    (s.cfg.raw.aarch32AnyEl = false → s.idIsar5El1Low = Config.unknown32 s.draws) ∧
    s.idIsar5El1.extractLsb' 0 32 = s.idIsar5El1Low

/-- R38, R100: ID_ISAR5 after reset is the configuration's value, a permitted one, RES0 bits zero; which
permitted one is OPEN (log 2). -/
def Obligations.ResetRegisterValue : Prop :=
  State.reset.idIsar5 = Config.atReset.raw.idIsar5 ∧ Config.atReset.raw.permitted = true ∧
  State.reset.idIsar5.extractLsb' 20 4 = 0#4

/-- MODEL'S CHOICE (logs 5 and 7): right after reset the PE is at EL3 in A32 state, every general-purpose
register copy is 0 and memory holds nothing. -/
def Obligations.ResetChoices : Prop :=
  State.reset.pstate.el = .el3 ∧ State.reset.pstate.exState = .aarch32 ∧
  State.reset.pstate.iset = .a32 ∧ State.reset.pc = 0#32 ∧
  (∀ j : Fin 33, State.reset.gpr.get j = 0#32) ∧ State.reset.mem = []
end

