-- ==== Sys2Proof/Laws/State.lean ====
section
/-! SUPPORT. One lemma per field of State per update, each true by rfl, so that no proof unfolds a
record update. -/

namespace Sys2Proof.Machine

variable (s : State)

/-! ### `writeReg` (R36) -/

@[simp] theorem State.writeReg_cfg (t : Fin 15) (v : Word) : (s.writeReg t v).cfg = s.cfg := rfl
@[simp] theorem State.writeReg_pstate (t : Fin 15) (v : Word) :
    (s.writeReg t v).pstate = s.pstate := rfl
@[simp] theorem State.writeReg_el2 (t : Fin 15) (v : Word) : (s.writeReg t v).el2 = s.el2 := rfl
@[simp] theorem State.writeReg_el1UsingAArch32 (t : Fin 15) (v : Word) :
    (s.writeReg t v).el1UsingAArch32 = s.el1UsingAArch32 := rfl
@[simp] theorem State.writeReg_condPassed (t : Fin 15) (v : Word) :
    (s.writeReg t v).condPassed = s.condPassed := rfl
@[simp] theorem State.writeReg_ctxQueue (t : Fin 15) (v : Word) :
    (s.writeReg t v).ctxQueue = s.ctxQueue := rfl
@[simp] theorem State.writeReg_gpr (t : Fin 15) (v : Word) :
    (s.writeReg t v).gpr = s.gpr.set (s.regIndex t) v := rfl
@[simp] theorem State.writeReg_pc (t : Fin 15) (v : Word) : (s.writeReg t v).pc = s.pc := rfl
@[simp] theorem State.writeReg_pc64 (t : Fin 15) (v : Word) : (s.writeReg t v).pc64 = s.pc64 := rfl
@[simp] theorem State.writeReg_hypRegs (t : Fin 15) (v : Word) :
    (s.writeReg t v).hypRegs = s.hypRegs := rfl
@[simp] theorem State.writeReg_el2Regs (t : Fin 15) (v : Word) :
    (s.writeReg t v).el2Regs = s.el2Regs := rfl
@[simp] theorem State.writeReg_el1Regs (t : Fin 15) (v : Word) :
    (s.writeReg t v).el1Regs = s.el1Regs := rfl
@[simp] theorem State.writeReg_returnAddress (t : Fin 15) (v : Word) :
    (s.writeReg t v).returnAddress = s.returnAddress := rfl
@[simp] theorem State.writeReg_mem (t : Fin 15) (v : Word) : (s.writeReg t v).mem = s.mem := rfl
@[simp] theorem State.writeReg_lastResult (t : Fin 15) (v : Word) :
    (s.writeReg t v).lastResult = s.lastResult := rfl
@[simp] theorem State.writeReg_draws (t : Fin 15) (v : Word) :
    (s.writeReg t v).draws = s.draws := rfl

/-! ### `advancePc` (R71) -/

@[simp] theorem State.advancePc_cfg : (s.advancePc).cfg = s.cfg := rfl
@[simp] theorem State.advancePc_pstate : (s.advancePc).pstate = s.pstate := rfl
@[simp] theorem State.advancePc_el2 : (s.advancePc).el2 = s.el2 := rfl
@[simp] theorem State.advancePc_el1UsingAArch32 :
    (s.advancePc).el1UsingAArch32 = s.el1UsingAArch32 := rfl
@[simp] theorem State.advancePc_condPassed : (s.advancePc).condPassed = s.condPassed := rfl
@[simp] theorem State.advancePc_ctxQueue : (s.advancePc).ctxQueue = s.ctxQueue := rfl
@[simp] theorem State.advancePc_gpr : (s.advancePc).gpr = s.gpr := rfl
@[simp] theorem State.advancePc_pc : (s.advancePc).pc = s.pc + 4#32 := rfl
@[simp] theorem State.advancePc_pc64 : (s.advancePc).pc64 = s.pc64 := rfl
@[simp] theorem State.advancePc_hypRegs : (s.advancePc).hypRegs = s.hypRegs := rfl
@[simp] theorem State.advancePc_el2Regs : (s.advancePc).el2Regs = s.el2Regs := rfl
@[simp] theorem State.advancePc_el1Regs : (s.advancePc).el1Regs = s.el1Regs := rfl
@[simp] theorem State.advancePc_returnAddress : (s.advancePc).returnAddress = s.returnAddress := rfl
@[simp] theorem State.advancePc_mem : (s.advancePc).mem = s.mem := rfl
@[simp] theorem State.advancePc_lastResult : (s.advancePc).lastResult = s.lastResult := rfl
@[simp] theorem State.advancePc_draws : (s.advancePc).draws = s.draws := rfl

/-! ### `noteResult` (R71, R78) -/

@[simp] theorem State.noteResult_cfg (r : Result) : (s.noteResult r).cfg = s.cfg := rfl
@[simp] theorem State.noteResult_pstate (r : Result) : (s.noteResult r).pstate = s.pstate := rfl
@[simp] theorem State.noteResult_el2 (r : Result) : (s.noteResult r).el2 = s.el2 := rfl
@[simp] theorem State.noteResult_el1UsingAArch32 (r : Result) :
    (s.noteResult r).el1UsingAArch32 = s.el1UsingAArch32 := rfl
@[simp] theorem State.noteResult_condPassed (r : Result) :
    (s.noteResult r).condPassed = s.condPassed := rfl
@[simp] theorem State.noteResult_ctxQueue (r : Result) :
    (s.noteResult r).ctxQueue = s.ctxQueue := rfl
@[simp] theorem State.noteResult_gpr (r : Result) : (s.noteResult r).gpr = s.gpr := rfl
@[simp] theorem State.noteResult_pc (r : Result) : (s.noteResult r).pc = s.pc := rfl
@[simp] theorem State.noteResult_pc64 (r : Result) : (s.noteResult r).pc64 = s.pc64 := rfl
@[simp] theorem State.noteResult_hypRegs (r : Result) : (s.noteResult r).hypRegs = s.hypRegs := rfl
@[simp] theorem State.noteResult_el2Regs (r : Result) : (s.noteResult r).el2Regs = s.el2Regs := rfl
@[simp] theorem State.noteResult_el1Regs (r : Result) : (s.noteResult r).el1Regs = s.el1Regs := rfl
@[simp] theorem State.noteResult_returnAddress (r : Result) :
    (s.noteResult r).returnAddress = s.returnAddress := rfl
@[simp] theorem State.noteResult_mem (r : Result) : (s.noteResult r).mem = s.mem := rfl
@[simp] theorem State.noteResult_lastResult (r : Result) :
    (s.noteResult r).lastResult = some r := rfl
@[simp] theorem State.noteResult_draws (r : Result) : (s.noteResult r).draws = s.draws + 1 := rfl

/-! ### `enterHyp` (R81) -/

@[simp] theorem State.enterHyp_cfg (hsr target : Word) : (s.enterHyp hsr target).cfg = s.cfg := rfl
@[simp] theorem State.enterHyp_pstate (hsr target : Word) :
    (s.enterHyp hsr target).pstate =
      { s.pstate with
        el := .el2, exState := .aarch32, mode := .hyp, iset := Config.entryISet s.draws } := rfl
@[simp] theorem State.enterHyp_el2 (hsr target : Word) : (s.enterHyp hsr target).el2 = s.el2 := rfl
@[simp] theorem State.enterHyp_el1UsingAArch32 (hsr target : Word) :
    (s.enterHyp hsr target).el1UsingAArch32 = s.el1UsingAArch32 := rfl
@[simp] theorem State.enterHyp_condPassed (hsr target : Word) :
    (s.enterHyp hsr target).condPassed = s.condPassed := rfl
@[simp] theorem State.enterHyp_ctxQueue (hsr target : Word) :
    (s.enterHyp hsr target).ctxQueue = s.ctxQueue := rfl
@[simp] theorem State.enterHyp_gpr (hsr target : Word) : (s.enterHyp hsr target).gpr = s.gpr := rfl
@[simp] theorem State.enterHyp_pc (hsr target : Word) : (s.enterHyp hsr target).pc = target := rfl
@[simp] theorem State.enterHyp_pc64 (hsr target : Word) :
    (s.enterHyp hsr target).pc64 = s.pc64 := rfl
@[simp] theorem State.enterHyp_hypRegs (hsr target : Word) :
    (s.enterHyp hsr target).hypRegs =
      { s.hypRegs with
        hsr := hsr, elr := s.pc, spsr := s.pstate } := rfl
@[simp] theorem State.enterHyp_el2Regs (hsr target : Word) :
    (s.enterHyp hsr target).el2Regs = s.el2Regs := rfl
@[simp] theorem State.enterHyp_el1Regs (hsr target : Word) :
    (s.enterHyp hsr target).el1Regs = s.el1Regs := rfl
@[simp] theorem State.enterHyp_returnAddress (hsr target : Word) :
    (s.enterHyp hsr target).returnAddress = s.pc := rfl
@[simp] theorem State.enterHyp_mem (hsr target : Word) : (s.enterHyp hsr target).mem = s.mem := rfl
@[simp] theorem State.enterHyp_lastResult (hsr target : Word) :
    (s.enterHyp hsr target).lastResult = s.lastResult := rfl
@[simp] theorem State.enterHyp_draws (hsr target : Word) :
    (s.enterHyp hsr target).draws = s.draws := rfl

/-! ### `enterEl2A64` (R82) -/

@[simp] theorem State.enterEl2A64_cfg (level : EL) (esr : Word) (target : BitVec 64) :
    (s.enterEl2A64 level esr target).cfg = s.cfg := rfl
@[simp] theorem State.enterEl2A64_pstate (level : EL) (esr : Word) (target : BitVec 64) :
    (s.enterEl2A64 level esr target).pstate =
      { s.pstate with
        el := level, exState := .aarch64 } := rfl
@[simp] theorem State.enterEl2A64_el2 (level : EL) (esr : Word) (target : BitVec 64) :
    (s.enterEl2A64 level esr target).el2 = s.el2 := rfl
@[simp] theorem State.enterEl2A64_el1UsingAArch32 (level : EL) (esr : Word) (target : BitVec 64) :
    (s.enterEl2A64 level esr target).el1UsingAArch32 = s.el1UsingAArch32 := rfl
@[simp] theorem State.enterEl2A64_condPassed (level : EL) (esr : Word) (target : BitVec 64) :
    (s.enterEl2A64 level esr target).condPassed = s.condPassed := rfl
@[simp] theorem State.enterEl2A64_ctxQueue (level : EL) (esr : Word) (target : BitVec 64) :
    (s.enterEl2A64 level esr target).ctxQueue = s.ctxQueue := rfl
@[simp] theorem State.enterEl2A64_gpr (level : EL) (esr : Word) (target : BitVec 64) :
    (s.enterEl2A64 level esr target).gpr = s.gpr := rfl
@[simp] theorem State.enterEl2A64_pc (level : EL) (esr : Word) (target : BitVec 64) :
    (s.enterEl2A64 level esr target).pc = s.pc := rfl
@[simp] theorem State.enterEl2A64_pc64 (level : EL) (esr : Word) (target : BitVec 64) :
    (s.enterEl2A64 level esr target).pc64 = target := rfl
@[simp] theorem State.enterEl2A64_hypRegs (level : EL) (esr : Word) (target : BitVec 64) :
    (s.enterEl2A64 level esr target).hypRegs = s.hypRegs := rfl
@[simp] theorem State.enterEl2A64_el2Regs (level : EL) (esr : Word) (target : BitVec 64) :
    (s.enterEl2A64 level esr target).el2Regs =
      { s.el2Regs with
        esr := esr, elr := s.pc.setWidth 64, spsr := s.pstate } := rfl
@[simp] theorem State.enterEl2A64_el1Regs (level : EL) (esr : Word) (target : BitVec 64) :
    (s.enterEl2A64 level esr target).el1Regs = s.el1Regs := rfl
@[simp] theorem State.enterEl2A64_returnAddress (level : EL) (esr : Word) (target : BitVec 64) :
    (s.enterEl2A64 level esr target).returnAddress = s.pc := rfl
@[simp] theorem State.enterEl2A64_mem (level : EL) (esr : Word) (target : BitVec 64) :
    (s.enterEl2A64 level esr target).mem = s.mem := rfl
@[simp] theorem State.enterEl2A64_lastResult (level : EL) (esr : Word) (target : BitVec 64) :
    (s.enterEl2A64 level esr target).lastResult = s.lastResult := rfl
@[simp] theorem State.enterEl2A64_draws (level : EL) (esr : Word) (target : BitVec 64) :
    (s.enterEl2A64 level esr target).draws = s.draws := rfl

/-! ### `enterUndefinedMode` (R80) -/

@[simp] theorem State.enterUndefinedMode_cfg : (s.enterUndefinedMode).cfg = s.cfg := rfl
@[simp] theorem State.enterUndefinedMode_pstate :
    (s.enterUndefinedMode).pstate =
      { s.pstate with
        el := .el1, exState := .aarch32, mode := .undefined,
        iset := Config.entryISet s.draws } := rfl
@[simp] theorem State.enterUndefinedMode_el2 : (s.enterUndefinedMode).el2 = s.el2 := rfl
@[simp] theorem State.enterUndefinedMode_el1UsingAArch32 :
    (s.enterUndefinedMode).el1UsingAArch32 = s.el1UsingAArch32 := rfl
@[simp] theorem State.enterUndefinedMode_condPassed :
    (s.enterUndefinedMode).condPassed = s.condPassed := rfl
@[simp] theorem State.enterUndefinedMode_ctxQueue :
    (s.enterUndefinedMode).ctxQueue = s.ctxQueue := rfl
@[simp] theorem State.enterUndefinedMode_gpr :
    (s.enterUndefinedMode).gpr =
      s.gpr.set (physIndex .undefined 14) (Config.undefinedLink s.draws) := rfl
@[simp] theorem State.enterUndefinedMode_pc :
    (s.enterUndefinedMode).pc = s.el1Regs.vectorBase + 0x04#32 := rfl
@[simp] theorem State.enterUndefinedMode_pc64 : (s.enterUndefinedMode).pc64 = s.pc64 := rfl
@[simp] theorem State.enterUndefinedMode_hypRegs : (s.enterUndefinedMode).hypRegs = s.hypRegs := rfl
@[simp] theorem State.enterUndefinedMode_el2Regs : (s.enterUndefinedMode).el2Regs = s.el2Regs := rfl
@[simp] theorem State.enterUndefinedMode_el1Regs : (s.enterUndefinedMode).el1Regs = s.el1Regs := rfl
@[simp] theorem State.enterUndefinedMode_returnAddress :
    (s.enterUndefinedMode).returnAddress = s.pc := rfl
@[simp] theorem State.enterUndefinedMode_mem : (s.enterUndefinedMode).mem = s.mem := rfl
@[simp] theorem State.enterUndefinedMode_lastResult :
    (s.enterUndefinedMode).lastResult = s.lastResult := rfl
@[simp] theorem State.enterUndefinedMode_draws : (s.enterUndefinedMode).draws = s.draws := rfl

/-! ### `enterEl1A64` (R80) -/

@[simp] theorem State.enterEl1A64_cfg : (s.enterEl1A64).cfg = s.cfg := rfl
@[simp] theorem State.enterEl1A64_pstate :
    (s.enterEl1A64).pstate = { s.pstate with el := .el1, exState := .aarch64 } := rfl
@[simp] theorem State.enterEl1A64_el2 : (s.enterEl1A64).el2 = s.el2 := rfl
@[simp] theorem State.enterEl1A64_el1UsingAArch32 :
    (s.enterEl1A64).el1UsingAArch32 = s.el1UsingAArch32 := rfl
@[simp] theorem State.enterEl1A64_condPassed : (s.enterEl1A64).condPassed = s.condPassed := rfl
@[simp] theorem State.enterEl1A64_ctxQueue : (s.enterEl1A64).ctxQueue = s.ctxQueue := rfl
@[simp] theorem State.enterEl1A64_gpr : (s.enterEl1A64).gpr = s.gpr := rfl
@[simp] theorem State.enterEl1A64_pc : (s.enterEl1A64).pc = s.pc := rfl
@[simp] theorem State.enterEl1A64_pc64 : (s.enterEl1A64).pc64 = Config.undefinedPc64 s.draws := rfl
@[simp] theorem State.enterEl1A64_hypRegs : (s.enterEl1A64).hypRegs = s.hypRegs := rfl
@[simp] theorem State.enterEl1A64_el2Regs : (s.enterEl1A64).el2Regs = s.el2Regs := rfl
@[simp] theorem State.enterEl1A64_el1Regs :
    (s.enterEl1A64).el1Regs =
      { s.el1Regs with
        esr := 0x00#6 ++ Config.undefinedEsrEl1Low s.draws } := rfl
@[simp] theorem State.enterEl1A64_returnAddress : (s.enterEl1A64).returnAddress = s.pc := rfl
@[simp] theorem State.enterEl1A64_mem : (s.enterEl1A64).mem = s.mem := rfl
@[simp] theorem State.enterEl1A64_lastResult : (s.enterEl1A64).lastResult = s.lastResult := rfl
@[simp] theorem State.enterEl1A64_draws : (s.enterEl1A64).draws = s.draws := rfl

/-! ### `withCtx` (R5) -/

@[simp] theorem State.withCtx_cfg (c : Ctx) : (s.withCtx c).cfg = s.cfg := rfl
@[simp] theorem State.withCtx_pstate (c : Ctx) :
    (s.withCtx c).pstate = { s.pstate with el := c.el, iset := c.iset } := rfl
@[simp] theorem State.withCtx_el2 (c : Ctx) :
    (s.withCtx c).el2 =
      { s.el2 with
        enabled := c.el2Enabled, usingAArch32 := c.el2UsingAArch32, hstrEl2T0 := c.hstrEl2T0,
        hstrT0 := c.hstrT0, hcrEl2Tid3 := c.hcrEl2Tid3, hcrTid3 := c.hcrTid3 } := rfl
@[simp] theorem State.withCtx_el1UsingAArch32 (c : Ctx) :
    (s.withCtx c).el1UsingAArch32 = s.el1UsingAArch32 := rfl
@[simp] theorem State.withCtx_condPassed (c : Ctx) : (s.withCtx c).condPassed = c.condPassed := rfl
@[simp] theorem State.withCtx_ctxQueue (c : Ctx) : (s.withCtx c).ctxQueue = s.ctxQueue := rfl
@[simp] theorem State.withCtx_gpr (c : Ctx) : (s.withCtx c).gpr = s.gpr := rfl
@[simp] theorem State.withCtx_pc (c : Ctx) : (s.withCtx c).pc = s.pc := rfl
@[simp] theorem State.withCtx_pc64 (c : Ctx) : (s.withCtx c).pc64 = s.pc64 := rfl
@[simp] theorem State.withCtx_hypRegs (c : Ctx) : (s.withCtx c).hypRegs = s.hypRegs := rfl
@[simp] theorem State.withCtx_el2Regs (c : Ctx) : (s.withCtx c).el2Regs = s.el2Regs := rfl
@[simp] theorem State.withCtx_el1Regs (c : Ctx) : (s.withCtx c).el1Regs = s.el1Regs := rfl
@[simp] theorem State.withCtx_returnAddress (c : Ctx) :
    (s.withCtx c).returnAddress = s.returnAddress := rfl
@[simp] theorem State.withCtx_mem (c : Ctx) : (s.withCtx c).mem = s.mem := rfl
@[simp] theorem State.withCtx_lastResult (c : Ctx) : (s.withCtx c).lastResult = s.lastResult := rfl
@[simp] theorem State.withCtx_draws (c : Ctx) : (s.withCtx c).draws = s.draws := rfl

/-! ### `withSupply` (R5, log 18) -/

@[simp] theorem State.withSupply_cfg (p : Supply) : (s.withSupply p).cfg = s.cfg := rfl
@[simp] theorem State.withSupply_pstate (p : Supply) :
    (s.withSupply p).pstate =
      { s.pstate with
        el := p.ctx.el, iset := p.ctx.iset, mode := p.mode } := rfl
@[simp] theorem State.withSupply_el2 (p : Supply) :
    (s.withSupply p).el2 =
      { s.el2 with
        enabled := p.ctx.el2Enabled, usingAArch32 := p.ctx.el2UsingAArch32,
        hstrEl2T0 := p.ctx.hstrEl2T0, hstrT0 := p.ctx.hstrT0, hcrEl2Tid3 := p.ctx.hcrEl2Tid3,
        hcrTid3 := p.ctx.hcrTid3, hcrTge := p.hcrTge, hcrEl2Tge := p.hcrEl2Tge } := rfl
@[simp] theorem State.withSupply_el1UsingAArch32 (p : Supply) :
    (s.withSupply p).el1UsingAArch32 = p.el1UsingAArch32 := rfl
@[simp] theorem State.withSupply_condPassed (p : Supply) :
    (s.withSupply p).condPassed = p.ctx.condPassed := rfl
@[simp] theorem State.withSupply_ctxQueue (p : Supply) :
    (s.withSupply p).ctxQueue = s.ctxQueue := rfl
@[simp] theorem State.withSupply_gpr (p : Supply) : (s.withSupply p).gpr = s.gpr := rfl
@[simp] theorem State.withSupply_pc (p : Supply) : (s.withSupply p).pc = s.pc := rfl
@[simp] theorem State.withSupply_pc64 (p : Supply) : (s.withSupply p).pc64 = s.pc64 := rfl
@[simp] theorem State.withSupply_hypRegs (p : Supply) : (s.withSupply p).hypRegs = s.hypRegs := rfl
@[simp] theorem State.withSupply_el2Regs (p : Supply) : (s.withSupply p).el2Regs = s.el2Regs := rfl
@[simp] theorem State.withSupply_el1Regs (p : Supply) : (s.withSupply p).el1Regs = s.el1Regs := rfl
@[simp] theorem State.withSupply_returnAddress (p : Supply) :
    (s.withSupply p).returnAddress = s.returnAddress := rfl
@[simp] theorem State.withSupply_mem (p : Supply) : (s.withSupply p).mem = s.mem := rfl
@[simp] theorem State.withSupply_lastResult (p : Supply) :
    (s.withSupply p).lastResult = s.lastResult := rfl
@[simp] theorem State.withSupply_draws (p : Supply) : (s.withSupply p).draws = s.draws := rfl

/-! ### `placeWord` (D10) -/

@[simp] theorem State.placeWord_cfg (i : ISet) (w : Word) : (s.placeWord i w).cfg = s.cfg := rfl
@[simp] theorem State.placeWord_pstate (i : ISet) (w : Word) :
    (s.placeWord i w).pstate = { s.pstate with exState := .aarch32, iset := i } := rfl
@[simp] theorem State.placeWord_el2 (i : ISet) (w : Word) : (s.placeWord i w).el2 = s.el2 := rfl
@[simp] theorem State.placeWord_el1UsingAArch32 (i : ISet) (w : Word) :
    (s.placeWord i w).el1UsingAArch32 = s.el1UsingAArch32 := rfl
@[simp] theorem State.placeWord_condPassed (i : ISet) (w : Word) :
    (s.placeWord i w).condPassed = s.condPassed := rfl
@[simp] theorem State.placeWord_ctxQueue (i : ISet) (w : Word) :
    (s.placeWord i w).ctxQueue = s.ctxQueue := rfl
@[simp] theorem State.placeWord_gpr (i : ISet) (w : Word) : (s.placeWord i w).gpr = s.gpr := rfl
@[simp] theorem State.placeWord_pc (i : ISet) (w : Word) :
    (s.placeWord i w).pc = placePc i s.pc := rfl
@[simp] theorem State.placeWord_pc64 (i : ISet) (w : Word) : (s.placeWord i w).pc64 = s.pc64 := rfl
@[simp] theorem State.placeWord_hypRegs (i : ISet) (w : Word) :
    (s.placeWord i w).hypRegs = s.hypRegs := rfl
@[simp] theorem State.placeWord_el2Regs (i : ISet) (w : Word) :
    (s.placeWord i w).el2Regs = s.el2Regs := rfl
@[simp] theorem State.placeWord_el1Regs (i : ISet) (w : Word) :
    (s.placeWord i w).el1Regs = s.el1Regs := rfl
@[simp] theorem State.placeWord_returnAddress (i : ISet) (w : Word) :
    (s.placeWord i w).returnAddress = s.returnAddress := rfl
@[simp] theorem State.placeWord_mem (i : ISet) (w : Word) :
    (s.placeWord i w).mem = Mem.writeList s.mem (placePc i s.pc).toNat (bytesOfWord i w) := rfl
@[simp] theorem State.placeWord_lastResult (i : ISet) (w : Word) :
    (s.placeWord i w).lastResult = s.lastResult := rfl
@[simp] theorem State.placeWord_draws (i : ISet) (w : Word) :
    (s.placeWord i w).draws = s.draws := rfl

end Sys2Proof.Machine
end

