-- ==== Sys2Proof/Laws/Memory.lean ====
section
/-! SUPPORT. Memory: reads after writes, the canonical form, and that bytes written are bytes
fetched. -/

namespace Sys2Proof.Machine

theorem Mem.read_write_same (m : List Host.Cell) (a : Nat) (b : Byte) :
    Mem.read (Mem.write m a b) a = some b := by
  induction m with
  | nil => simp [Mem.write, Mem.read]
  | cons cell rest ih =>
    obtain ⟨a', b'⟩ := cell
    unfold Mem.write
    split
    · simp [Mem.read]
    · split
      · simp [Mem.read]
      · next h => simp [Mem.read, h, ih]

theorem Mem.read_write_other (m : List Host.Cell) (a c : Nat) (b : Byte) (h : c ≠ a) :
    Mem.read (Mem.write m a b) c = Mem.read m c := by
  induction m with
  | nil => simp [Mem.write, Mem.read, h]
  | cons cell rest ih =>
    obtain ⟨a', b'⟩ := cell
    unfold Mem.write
    split
    · simp [Mem.read, h]
    · split
      · next h2 => subst h2; simp [Mem.read, h]
      · simp only [Mem.read, ih]

theorem Mem.risesFrom_mono {lo lo' : Nat} {m : List Host.Cell} (h : lo' ≤ lo)
    (hm : Mem.risesFrom lo m = true) : Mem.risesFrom lo' m = true := by
  cases m with
  | nil => rfl
  | cons cell rest =>
    simp only [Mem.risesFrom, Bool.and_eq_true, decide_eq_true_eq] at hm ⊢
    exact ⟨⟨h.trans hm.1.1, hm.1.2⟩, hm.2⟩

theorem Mem.risesFrom_write {lo a : Nat} {m : List Host.Cell} (b : Byte) (hlo : lo ≤ a)
    (htop : a < memTop) (hm : Mem.risesFrom lo m = true) :
    Mem.risesFrom lo (Mem.write m a b) = true := by
  induction m generalizing lo with
  | nil => simp [Mem.write, Mem.risesFrom, hlo, htop]
  | cons cell rest ih =>
    obtain ⟨a', b'⟩ := cell
    simp only [Mem.risesFrom, Bool.and_eq_true, decide_eq_true_eq] at hm
    unfold Mem.write
    split
    · next h => simp [Mem.risesFrom, hlo, htop, hm.1.2, hm.2, Nat.succ_le_of_lt h]
    · split
      · next h => subst h; simp [Mem.risesFrom, hlo, htop, hm.2]
      · next h1 h2 =>
        simp [Mem.risesFrom, hm.1.1, hm.1.2, ih (Nat.succ_le_of_lt (by omega)) hm.2]

/-- Writing a byte inside the address space keeps the canonical form. -/
theorem Mem.wf_write {a : Nat} {m : List Host.Cell} (b : Byte) (htop : a < memTop)
    (hm : Mem.wf m = true) : Mem.wf (Mem.write m a b) = true :=
  Mem.risesFrom_write b (Nat.zero_le a) htop hm

/-- Writing bytes inside the address space keeps the canonical form. -/
theorem Mem.wf_writeList {a : Nat} {m : List Host.Cell} (bs : List Byte)
    (htop : a + bs.length ≤ memTop) (hm : Mem.wf m = true) :
    Mem.wf (Mem.writeList m a bs) = true := by
  induction bs generalizing a m with
  | nil => exact hm
  | cons b rest ih =>
    simp only [List.length_cons] at htop
    exact ih (by omega) (Mem.wf_write b (by omega) hm)

theorem Mem.read_writeList_below {a c : Nat} {m : List Host.Cell} (bs : List Byte) (h : c < a) :
    Mem.read (Mem.writeList m a bs) c = Mem.read m c := by
  induction bs generalizing a m with
  | nil => rfl
  | cons b rest ih =>
    exact (ih (by omega)).trans (Mem.read_write_other m a c b (by omega))

/-- A write leaves every byte outside the bytes written alone. -/
theorem Mem.read_writeList_other {a c : Nat} {m : List Host.Cell} (bs : List Byte)
    (h : c < a ∨ a + bs.length ≤ c) :
    Mem.read (Mem.writeList m a bs) c = Mem.read m c := by
  induction bs generalizing a m with
  | nil => rfl
  | cons b rest ih =>
    simp only [List.length_cons] at h
    exact (ih (by omega)).trans (Mem.read_write_other m a c b (by omega))

/-- Bytes written are the bytes read back from the same address on. -/
theorem Mem.bytesFrom_writeList {a : Nat} (m : List Host.Cell) (bs : List Byte)
    (htop : a + bs.length ≤ memTop) :
    Mem.bytesFrom (Mem.writeList m a bs) a bs.length = bs := by
  induction bs generalizing a m with
  | nil => rfl
  | cons b rest ih =>
    simp only [List.length_cons] at htop
    have hread : Mem.read (Mem.writeList m a (b :: rest)) a = some b :=
      (Mem.read_writeList_below rest (Nat.lt_succ_self a)).trans (Mem.read_write_same m a b)
    simp only [List.length_cons, Mem.bytesFrom, hread, if_pos (show a < memTop by omega)]
    exact congrArg (b :: ·) (ih _ (by omega))

@[simp] theorem bytesOfWord_length (i : ISet) (w : Word) : (bytesOfWord i w).length = 4 := by
  cases i <;> rfl

/-- The placed instruction is fetched whole: its address is aligned and below the top. -/
theorem pcHoldsInstr_placePc (i : ISet) (pc : Word) : pcHoldsInstr i (placePc i pc) = true := by
  unfold placePc
  split
  · assumption
  · have h : (pc &&& 0xFFFFFFFC#32).toNat % 4 = 0 := by
      have h2 : (pc &&& 0xFFFFFFFC#32) &&& 3#32 = 0#32 := by
        rw [BitVec.and_assoc]
        exact BitVec.and_zero
      have h3 := congrArg BitVec.toNat h2
      rw [BitVec.toNat_and] at h3
      simpa [Nat.and_two_pow_sub_one_eq_mod _ 2] using h3
    have hlt := (pc &&& 0xFFFFFFFC#32).isLt
    simp only [pcHoldsInstr, Bool.and_eq_true, decide_eq_true_eq]
    refine ⟨?_, by unfold memTop; omega⟩
    cases i <;> simp only [pcAligned, beq_iff_eq] <;> omega

/-- Placing a word keeps memory canonical. -/
theorem State.wf_placeWord {s : State} (i : ISet) (w : Word) (h : Mem.wf s.mem = true) :
    Mem.wf (s.placeWord i w).mem = true := by
  have hp := pcHoldsInstr_placePc i s.pc
  simp only [pcHoldsInstr, Bool.and_eq_true, decide_eq_true_eq] at hp
  exact Mem.wf_writeList _ (by rw [bytesOfWord_length]; exact hp.2) h

/-- The bytes fetched after placing a word are that word's. -/
theorem State.fetchBytes_placeWord (s : State) (i : ISet) (w : Word) :
    (s.placeWord i w).fetchBytes = bytesOfWord i w := by
  have hp := pcHoldsInstr_placePc i s.pc
  simp only [pcHoldsInstr, Bool.and_eq_true, decide_eq_true_eq] at hp
  have := Mem.bytesFrom_writeList s.mem (bytesOfWord i w) (a := (placePc i s.pc).toNat)
    (by rw [bytesOfWord_length]; exact hp.2)
  rwa [bytesOfWord_length] at this

/-- Memory after reset is canonical. -/
theorem State.reset_wf : Mem.wf State.reset.mem = true := rfl

end Sys2Proof.Machine
end

