-- ==== Sys2Proof/Laws/Ops.lean ====
section
/-! SUPPORT. One lemma per shared operation that says what it can do: registers, taking an exception,
the read, supplying a context, and the inversion of exec and step. -/

namespace Sys2Proof.Machine

/-! ### The destination operand -/

@[simp] theorem destOf_rtOf (t : Fin 15) : destOf (rtOf t) = some t := by
  revert t; decide

theorem destOf_eq_none_iff (rt : BitVec 4) : destOf rt = none ↔ rt = 15#4 := by
  revert rt; decide

theorem rtOf_of_destOf {rt : BitVec 4} {t : Fin 15} (h : destOf rt = some t) : rt = rtOf t := by
  revert t rt; decide

/-! ### General-purpose registers -/

/-- Two registers of one mode are kept in two places. -/
theorem physIndex_injective (m : Mode) : Function.Injective (physIndex m) := by
  intro t t'
  revert t t'
  cases m <;> decide

/-- The copy written is the copy read. -/
@[simp] theorem gpr_get_set_same (g : Vector Word 33) (j : Fin 33) (v : Word) :
    (g.set j v).get j = v :=
  Vector.getElem_set_self _

/-- A write of one copy leaves every other copy alone. -/
theorem gpr_get_set_other (g : Vector Word 33) {i j : Fin 33} (v : Word) (h : i ≠ j) :
    (g.set i v).get j = g.get j :=
  Vector.getElem_set_ne _ _ fun e => h (Fin.ext e)

@[simp] theorem State.regIndex_writeReg (s : State) (t u : Fin 15) (v : Word) :
    (s.writeReg t v).regIndex u = s.regIndex u := rfl

@[simp] theorem State.readReg_writeReg_same (s : State) (t : Fin 15) (v : Word) :
    (s.writeReg t v).readReg t = v :=
  gpr_get_set_same _ _ _

theorem State.readReg_writeReg_other (s : State) {t u : Fin 15} (v : Word) (h : t ≠ u) :
    (s.writeReg t v).readReg u = s.readReg u :=
  gpr_get_set_other _ v fun e => h (physIndex_injective _ e)

/-! ### Taking an exception -/

/-- The four entries, and when each is taken. -/
theorem State.takeException_cases (s : State) (e : Exc) (t : Fin 15) :
    (∃ hsr target, s.takeException e t = s.enterHyp hsr target) ∨
    (∃ level esr target, s.takeException e t = s.enterEl2A64 level esr target) ∨
    (e = .undefined ∧ s.tgeRoutes = false ∧ s.el1UsingAArch32 = true ∧
      s.takeException e t = s.enterUndefinedMode) ∨
    (e = .undefined ∧ s.tgeRoutes = false ∧ s.el1UsingAArch32 = false ∧
      s.takeException e t = s.enterEl1A64) := by
  cases e with
  | undefined =>
    unfold State.takeException
    cases hr : s.tgeRoutes <;> cases h2 : s.el2.usingAArch32 <;> cases h1 : s.el1UsingAArch32 <;>
      simp
  | hypTrap ec => exact .inl ⟨_, _, rfl⟩
  | a64SystemAccessTrap level ec => exact .inr (.inl ⟨_, _, _, rfl⟩)

/-- What no exception entry changes. -/
structure State.EntryKeeps (s u : State) : Prop where
  cfg : u.cfg = s.cfg
  el2 : u.el2 = s.el2
  el1UsingAArch32 : u.el1UsingAArch32 = s.el1UsingAArch32
  condPassed : u.condPassed = s.condPassed
  ctxQueue : u.ctxQueue = s.ctxQueue
  flags : u.pstate.flags = s.pstate.flags
  mem : u.mem = s.mem
  lastResult : u.lastResult = s.lastResult
  draws : u.draws = s.draws

theorem State.takeException_keeps (s : State) (e : Exc) (t : Fin 15) :
    s.EntryKeeps (s.takeException e t) := by
  obtain ⟨_, _, h⟩ | ⟨_, _, _, h⟩ | ⟨-, -, -, h⟩ | ⟨-, -, -, h⟩ := s.takeException_cases e t <;>
    rw [h] <;> constructor <;> rfl

/-! ### The outcome and the read -/

/-- The outcomes of the access check. -/
theorem access_cases (v : Word) (c : Ctx) :
    access v c = .value v ∨ access v c = .raised .undefined ∧ c.el = .el0 ∨
    access v c = .raised (.hypTrap 0x03#8) ∧ c.el = .el1 ∨
    access v c = .raised (.a64SystemAccessTrap .el2 0x03#8) ∧ c.el = .el1 := by
  unfold access
  split
  · next h => exact .inr (.inl ⟨rfl, h⟩)
  · next h =>
    split
    · exact .inr (.inr (.inr ⟨rfl, h⟩))
    split
    · exact .inr (.inr (.inl ⟨rfl, h⟩))
    split
    · exact .inr (.inr (.inr ⟨rfl, h⟩))
    split
    · exact .inr (.inr (.inl ⟨rfl, h⟩))
    · exact .inl rfl
  all_goals exact .inl rfl

/-- An outcome is the access's own, or `Nop` where the condition failed. -/
theorem State.readResult_cases (s : State) :
    s.readResult = access s.valueRead s.ctx ∨ s.condPassed = false ∧ s.readResult = .nop := by
  unfold State.readResult
  cases s.condPassed <;> cases access s.valueRead s.ctx <;> simp

/-- One context gives one outcome (R76): on one PE where the register is present, nothing but the
context bears on it. -/
theorem State.readResult_congr {s u : State} (hp : s.cfg.raw.aarch32AnyEl = true)
    (hcfg : u.cfg = s.cfg) (hctx : u.ctx = s.ctx) : u.readResult = s.readResult := by
  have hv : u.valueRead = s.valueRead := by simp [State.valueRead, State.idIsar5, hcfg, hp]
  have hc : u.condPassed = s.condPassed := congrArg Ctx.condPassed hctx
  unfold State.readResult
  rw [hv, hc, hctx]

/-- What no read changes, whatever its outcome. -/
structure State.ReadKeeps (s u : State) : Prop where
  cfg : u.cfg = s.cfg
  el2 : u.el2 = s.el2
  el1UsingAArch32 : u.el1UsingAArch32 = s.el1UsingAArch32
  condPassed : u.condPassed = s.condPassed
  ctxQueue : u.ctxQueue = s.ctxQueue
  flags : u.pstate.flags = s.pstate.flags
  mem : u.mem = s.mem

theorem State.readInto_keeps (s : State) (t : Fin 15) : s.ReadKeeps (s.readInto t) := by
  unfold State.readInto State.applyResult
  cases s.readResult with
  | value v => constructor <;> rfl
  | nop => constructor <;> rfl
  | raised e =>
    obtain ⟨h1, h2, h3, h4, h5, h6, h7, -, -⟩ := s.takeException_keeps e t
    exact ⟨h1, h2, h3, h4, h5, h6, h7⟩

@[simp] theorem State.readInto_lastResult (s : State) (t : Fin 15) :
    (s.readInto t).lastResult = some s.readResult := rfl

theorem State.readInto_draws (s : State) (t : Fin 15) : (s.readInto t).draws = s.draws + 1 := by
  unfold State.readInto State.applyResult
  cases s.readResult with
  | value v => rfl
  | nop => rfl
  | raised e => exact congrArg (· + 1) (s.takeException_keeps e t).draws

/-- `exec` answers a next state exactly where Rt is a register number, and never faults. -/
theorem exec_eq (i : Instr) (s : State) :
    exec i s = match destOf i.rt with
      | some t => .next (s.readInto t)
      | none => .refused .rtIs15 := by
  cases i <;> rfl

theorem exec_next {i : Instr} {s u : State} (h : exec i s = .next u) :
    ∃ t, i.rt = rtOf t ∧ u = s.readInto t := by
  rw [exec_eq] at h
  cases ht : destOf i.rt with
  | none => rw [ht] at h; cases h
  | some t =>
    rw [ht] at h
    cases h
    exact ⟨t, rtOf_of_destOf ht, rfl⟩

/-! ### Supplying a context, and the step -/

/-- A supply puts exactly its own context in effect. -/
@[simp] theorem State.ctx_withSupply (s : State) (p : Supply) : (s.withSupply p).ctx = p.ctx := rfl

/-- A step's last act is nothing, or the oldest supply. -/
theorem State.supplyCtx_cases (s : State) :
    s.ctxQueue = [] ∧ s.supplyCtx = s ∨
    ∃ p rest, s.ctxQueue = p :: rest ∧
      s.supplyCtx = { s.withSupply p with ctxQueue := rest } := by
  unfold State.supplyCtx
  cases h : s.ctxQueue with
  | nil => exact .inl ⟨rfl, rfl⟩
  | cons p rest => exact .inr ⟨p, rest, rfl, rfl⟩

/-- What no supply changes. -/
structure State.SupplyKeeps (s u : State) : Prop where
  cfg : u.cfg = s.cfg
  exState : u.pstate.exState = s.pstate.exState
  flags : u.pstate.flags = s.pstate.flags
  gpr : u.gpr = s.gpr
  pc : u.pc = s.pc
  pc64 : u.pc64 = s.pc64
  hypRegs : u.hypRegs = s.hypRegs
  el2Regs : u.el2Regs = s.el2Regs
  el1Regs : u.el1Regs = s.el1Regs
  returnAddress : u.returnAddress = s.returnAddress
  mem : u.mem = s.mem
  lastResult : u.lastResult = s.lastResult
  draws : u.draws = s.draws

theorem State.supplyCtx_keeps (s : State) : s.SupplyKeeps s.supplyCtx := by
  obtain ⟨-, h⟩ | ⟨p, rest, -, h⟩ := s.supplyCtx_cases <;> rw [h] <;> constructor <;> rfl

/-- Everything a step that answers a next state can have done. -/
theorem step_next {s u : State} (h : step s = .next u) :
    ∃ i t, s.fetch = .instr i ∧ i.rt = rtOf t ∧ u = (s.readInto t).supplyCtx := by
  unfold step at h
  split at h
  · cases h
  · cases h
  · next i hf =>
    split at h
    · split at h
      · next v hx =>
        obtain ⟨t, ht, rfl⟩ := exec_next hx
        cases h
        exact ⟨i, t, hf, ht, rfl⟩
      · cases h
      · cases h
    · cases h

end Sys2Proof.Machine
end

