-- ==== Sys2Proof/Laws/PerInstr.lean ====
section
/-! SUPPORT. Statements for all instructions, one lemma per constructor. -/

namespace Sys2Proof.Laws.EncodedFields

/-- The Rt field of an instruction's word is its Rt operand (R54, R55), and the instruction is
well-formed exactly where that field names a register (R74). -/
def Statement (i : Instr) : Prop :=
  rtField (encode i) = i.rt ∧ (i.wellFormed = true ↔ (Machine.destOf i.rt).isSome = true)

theorem mrcA1 (cond : Cond) (rt : BitVec 4) : Statement (.mrcA1 cond rt) := by
  cases cond <;> revert rt <;> unfold Statement <;> decide

theorem mrcT1 (rt : BitVec 4) : Statement (.mrcT1 rt) := by
  revert rt; unfold Statement; decide

end Sys2Proof.Laws.EncodedFields
end

