-- ==== Sys2Proof/Tests/Slice0.lean ====
section
/-! SUPPORT. The model's own tests: expected values are those of 95_test_vectors.md or written out by
hand from the encoding tables; and a witness for the hypotheses of each statement. -/

namespace Sys2Proof.Tests

open Sys2Proof.Machine

/-! ### A small state -/

/-- The configuration with value 0x11011121 (95_test_vectors.md 3.1), Armv8.3. -/
def cfgFull : WfCfg :=
  ⟨{ archMinor := 3, aarch32AnyEl := true, vcma := 1#4, rdm := 1#4, crc32 := 1#4, sha2 := 1#4,
     sha1 := 1#4, aes := 2#4, sevl := 1#4 }, by decide⟩

/-- The same where AArch32 is supported at no Exception level. -/
def cfgAbsent : WfCfg :=
  ⟨{ cfgFull.raw with aarch32AnyEl := false }, by decide⟩

/-- The smallest Armv8.0 configuration, 0x00000001 (R23). -/
def cfgSmall : WfCfg :=
  ⟨{ archMinor := 0, aarch32AnyEl := true, vcma := 0#4, rdm := 0#4, crc32 := 0#4, sha2 := 0#4,
     sha1 := 0#4, aes := 0#4, sevl := 1#4 }, by decide⟩

/-- EL2's controls in the order E, A, HSTR_EL2.T0, HSTR.T0, HCR_EL2.TID3, HCR.TID3 (vectors 4). -/
def controls (e a t0' t0 tid3' tid3 : Bool) : El2Controls :=
  { enabled := e, usingAArch32 := a, hstrEl2T0 := t0', hstrT0 := t0, hcrEl2Tid3 := tid3',
    hcrTid3 := tid3, hcrTge := false, hcrEl2Tge := false }

/-- EL2 not enabled. -/
def noEl2 : El2Controls := controls false false false false false false

/-- A PE at `el` with the pc at 0x8000. -/
def base (el : EL) (e : El2Controls) : State :=
  { State.reset with
    cfg := cfgFull
    pstate := { PState.reset with el := el }
    el2 := e
    el1UsingAArch32 := true
    pc := 0x8000#32 }

/-- The same with its condition failed. -/
def baseFailed (el : EL) (e : El2Controls) : State :=
  { base el e with condPassed := false }

/-- A supply: the context of a PE at `el`, in Supervisor mode, EL1 using AArch32, TGE clear. -/
def supplyOf (el : EL) (e : El2Controls) : Supply :=
  { ctx := (base el e).ctx, mode := .supervisor, el1UsingAArch32 := true, hcrTge := false,
    hcrEl2Tge := false }

/-- A PE with a word at its pc. -/
def holding (el : EL) (i : ISet) (w : Word) : State :=
  (base el noEl2).placeWord i w

/-- What a test looks at: the outcome noted, and a register. -/
def seen (t : Fin 15) : Host.Outcome State Fault Refusal → Option (Option Result × Word)
  | .next s => some (s.lastResult, s.readReg t)
  | _ => none

/-- The reason of a refusal. -/
def refusalOf : Host.Outcome State Fault Refusal → Option Refusal
  | .refused r => some r
  | _ => none

/-- The reason of a fault. -/
def faultOf : Host.Outcome State Fault Refusal → Option Fault
  | .fault f => some f
  | _ => none

/-! ### Well-formedness and configurations: what the checks refuse -/

/-- R74: t = 15, in both encodings; the neighbour t = 14 passes. -/
theorem test_wellFormed_refuses_rt15 :
    (Instr.mrcA1 .al 15#4).wellFormed = false ∧ (Instr.mrcT1 15#4).wellFormed = false ∧
    (Instr.mrcA1 .al 14#4).wellFormed = true ∧ (Instr.mrcT1 14#4).wellFormed = true := by decide

/-- Vectors 3.2: AES = 0b0001, SEVL = 0b0000, VCMA = 0b0010 and VCMA = 0 from Armv8.3 are refused. -/
theorem test_check_refuses :
    Cfg.check { cfgFull.raw with aes := 1#4 } = none ∧
    Cfg.check { cfgFull.raw with sevl := 0#4 } = none ∧
    Cfg.check { cfgFull.raw with vcma := 2#4 } = none ∧
    Cfg.check { cfgFull.raw with vcma := 0#4 } = none := by decide

/-- Vectors 3.2: VCMA = 0 is permitted in Armv8.2, CRC32 = 0 in Armv8.0 and not in Armv8.1. -/
theorem test_permitted_by_version :
    Cfg.permitted { cfgFull.raw with vcma := 0#4, archMinor := 2 } = true ∧
    Cfg.permitted { cfgFull.raw with crc32 := 0#4, archMinor := 0 } = true ∧
    Cfg.permitted { cfgFull.raw with crc32 := 0#4, archMinor := 1 } = false := by decide

/-- Vectors 3.1: 0x11011121, and each field of 0x12345678. -/
theorem test_register_value :
    cfgFull.raw.idIsar5 = 0x11011121#32 ∧ cfgSmall.raw.idIsar5 = 0x00000001#32 := by decide

theorem test_field_extraction :
    [Field.vcma, .rdm, .res0, .crc32, .sha2, .sha1, .aes, .sevl].map
      (fun f => f.of 0x12345678#32) = [1#4, 2#4, 3#4, 4#4, 5#4, 6#4, 7#4, 8#4] := by decide

/-- Vectors 3.4: 0x11011121 has both AES features; R27: AES = 0 has none and SEVL = 1 sends. -/
theorem test_features :
    cfgFull.raw.has .aesInstrs = true ∧ cfgFull.raw.has .polynomialVmull64 = true ∧
    cfgSmall.raw.has .aesInstrs = false ∧ cfgSmall.raw.has .sevlSendsEvent = true := by decide

/-! ### Decoding: words written out bit by bit from R54 and R55 -/

/-- R54, cond = AL, t = 3: `1110 1110 0001 0000 0011 1111 1011 0010`. -/
theorem test_decode_a32 :
    decodeWord .a32 0b11101110000100000011111110110010#32 = some (.mrcA1 .al 3#4) := by decide

/-- Vectors 2.1: MRCVS, t = 0, 0x6E100FB2. -/
theorem test_decode_a32_cond :
    decodeWord .a32 0x6E100FB2#32 = some (.mrcA1 .vs 0#4) := by decide

/-- R55, t = 9: hw1 `1110 1110 0001 0000`, hw2 `1001 1111 1011 0010`, each with its low byte first. -/
theorem test_decode_t32_bytes :
    decode .t32 [0b00010000#8, 0b11101110#8, 0b10110010#8, 0b10011111#8] =
      .ok (.mrcT1 9#4, []) := by decide

/-- A T32 halfword that starts no 32-bit instruction is outside the spec by itself (R53, R60). -/
theorem test_decode_t32_narrow : decode .t32 [0x00#8, 0xBF#8] = .error .notThisSpec := by decide

/-- Row 1 and row 2 of the opcode table, operand bits zero. -/
theorem test_decodeTableWord :
    decodeTableWord 32 0x0E100FB2 = some (.mrcA1 .eq 0#4) ∧
    decodeTableWord 32 0xEE100FB2 = some (.mrcT1 0#4) := by decide

/-- R57's formulas, at t = 14 and cond = NE. -/
theorem test_encode :
    encode (.mrcA1 .ne 14#4) = 0x1E10EFB2#32 ∧ encode (.mrcT1 14#4) = 0xEE10EFB2#32 := by decide

/-! ### The read (95_test_vectors.md 5) -/

/-- Vector 2: EL1 without EL2, t = 3. -/
theorem test_read_el1 :
    seen 3 (exec (.mrcA1 .al 3#4) (base .el1 noEl2)) =
      some (some (.value 0x11011121#32), 0x11011121#32) := by decide

/-- Vector 13: at EL2 no trap bit is looked at. -/
theorem test_read_el2_ignores_traps :
    seen 1 (exec (.mrcT1 1#4) (base .el2 (controls true true true true true true))) =
      some (some (.value 0x11011121#32), 0x11011121#32) := by decide

/-- Vectors 5 and 6: EL0 is Undefined, whatever the trap bits. -/
theorem test_read_el0_undefined :
    seen 0 (exec (.mrcA1 .al 0#4) (base .el0 (controls true true true true true true))) =
      some (some (.raised .undefined), 0#32) := by decide

/-- Vector 15: a failed condition with an allowed read is a Nop. -/
theorem test_nop :
    seen 5 (exec (.mrcA1 .ne 5#4) (baseFailed .el2 noEl2)) = some (some .nop, 0#32) := by decide

/-- Truth table rows 38, 41, 54 and 59 (section 4). -/
theorem test_access_rows :
    (access 7#32 (base .el1 (controls true false false true false true)).ctx = .value 7#32) ∧
    (access 7#32 (base .el1 (controls true false true false false false)).ctx =
      .raised (.a64SystemAccessTrap .el2 0x03#8)) ∧
    (access 7#32 (base .el1 (controls true true false true false true)).ctx =
      .raised (.hypTrap 0x03#8)) ∧
    (access 7#32 (base .el1 (controls true true true false true false)).ctx = .value 7#32) := by
  decide

/-- Vector 19: SP is a plain write, of Supervisor mode's copy and of no other. -/
theorem test_sp_is_banked :
    (((base .el1 noEl2).readInto 13).gpr.get 24 = 0x11011121#32) ∧
    (((base .el1 noEl2).readInto 13).gpr.get 13 = 0#32) := by decide

/-- R81: HSR of the trapped read with t = 5: EC = 0x03, IL = 1, Opc2 = 5, Rt = 5, CRm = 2, a read;
CV and COND taken as zero. 0x0E0A00A5. -/
theorem test_syndrome :
    syndrome 0x03#8 (trapIss 0#5 5#5) = 0x0E0A00A5#32 := by decide

/-- R81: the trap to Hyp mode goes to HVBAR + 0x14 at EL2. -/
theorem test_hyp_entry :
    ((base .el1 (controls true true false true false false)).readInto 4).pc = 0x14#32 ∧
    ((base .el1 (controls true true false true false false)).readInto 4).pstate.el = .el2 ∧
    ((base .el1 (controls true true false true false false)).readInto 4).hypRegs.elr =
      0x8000#32 := by decide

/-- R82: the trap to EL2 using AArch64 goes to VBAR_EL2 + 0x600. -/
theorem test_a64_entry :
    ((base .el1 (controls true false true false false false)).readInto 4).pc64 = 0x600#64 ∧
    ((base .el1 (controls true false true false false false)).readInto 4).pstate.exState =
      .aarch64 := by decide

/-! ### The step -/

/-- Vector 14 as one step: T32, EL1, t = 2. -/
theorem test_step_t32 :
    seen 2 (step (holding .el1 .t32 0xEE102FB2#32)) =
      some (some (.value 0x11011121#32), 0x11011121#32) := by decide

/-- Vectors 20 and 21: t = 15 and the MCR are refused. -/
theorem test_step_refusals :
    refusalOf (step (holding .el1 .a32 0xEE10FFB2#32)) = some .rtIs15 ∧
    refusalOf (step (holding .el1 .a32 0xEE000FB2#32)) = some .notThisSpec := by decide

/-- After reset nothing is in memory; row 1's word, once placed, runs. -/
theorem test_reset_step :
    faultOf (step State.reset) = some .fetchUnwritten ∧
    (seen 0 (step (State.reset.withFetchWord 32 0x0E100FB2))).isSome = true := by decide

/-- R36, R90: after a trap to Hyp mode the guest's context is supplied with its mode, and SP is Supervisor
mode's copy again. -/
theorem test_mode_supplied :
    (((base .el1 (controls true true false true false false)).readInto 4).regIndex 13 = 32) ∧
    ((((base .el1 (controls true true false true false false)).readInto 4).withSupply
      (supplyOf .el1 noEl2)).regIndex 13 = 24) := by decide

/-- R13, C3: where the register is absent, a read by its second name is the draw as well. -/
theorem test_el1_view :
    (base .el1 noEl2).idIsar5El1 = 0x11011121#64 ∧
    ({ base .el1 noEl2 with cfg := cfgAbsent } : State).idIsar5El1Low = Config.unknown32 0 :=
  ⟨by decide, rfl⟩

/-- P5's first step: the condition fails, and the supplied context lets the next one pass. -/
theorem test_context_supplied :
    (match step { holding .el2 .a32 0x1E105FB2#32 with
        condPassed := false
        ctxQueue := [supplyOf .el2 noEl2] } with
      | .next u => u.condPassed && u.pc == 0x8004#32 && u.lastResult == some .nop
      | _ => false) = true := by decide

/-! ### Witnesses: a concrete case meets the hypotheses of each statement -/

/-- DecoderAcceptsExactly, OtherWordsRefused: a word outside R56. -/
theorem witness_other_word :
    decodeWord .a32 0xEE100F92#32 = none ∧
    (holding .el1 .a32 0xEE100F92#32).pstate.exState = .aarch32 ∧
    pcAligned .a32 (holding .el1 .a32 0xEE100F92#32).pc = true ∧
    (holding .el1 .a32 0xEE100F92#32).fetchBytes = bytesOfWord .a32 0xEE100F92#32 := by decide

/-- EncodeDecodeAgree: an accepted word in each instruction set. -/
theorem witness_accepted_words :
    decodeWord .a32 0xDE10EFB2#32 = some (.mrcA1 .le 14#4) ∧
    decodeWord .t32 0xEE10FFB2#32 = some (.mrcT1 15#4) := by decide

/-- WriteFormNotDecoded, WriteFormRefused: the write form in each instruction set. -/
theorem witness_write_form :
    0xEE000FB2#32 &&& 0x0FFF0FFF#32 = 0x0E000FB2#32 ∧
    0xEE00EFB2#32 &&& 0xFFFF0FFF#32 = 0xEE000FB2#32 ∧
    (holding .el1 .a32 0xEE000FB2#32).fetchBytes = bytesOfWord .a32 0xEE000FB2#32 ∧
    (holding .el1 .t32 0xEE00EFB2#32).fetchBytes = bytesOfWord .t32 0xEE00EFB2#32 ∧
    (holding .el1 .t32 0xEE00EFB2#32).pstate.iset = .t32 ∧
    (holding .el1 .t32 0xEE00EFB2#32).pstate.exState = .aarch32 ∧
    pcAligned .t32 (holding .el1 .t32 0xEE00EFB2#32).pc = true := by decide

/-- StepRunsDecodedInstr. -/
theorem witness_step_runs :
    (holding .el1 .t32 0xEE102FB2#32).pstate.exState = .aarch32 ∧
    pcAligned .t32 (holding .el1 .t32 0xEE102FB2#32).pc = true ∧
    decode .t32 (holding .el1 .t32 0xEE102FB2#32).fetchBytes = .ok (.mrcT1 2#4, []) ∧
    (Instr.mrcT1 2#4).wellFormed = true := by decide

/-- PlacedWordRunsNext. -/
theorem witness_placed :
    decodeTableWord 32 0x0E10EFB2 = some (.mrcA1 .eq 14#4) ∧
    (Instr.mrcA1 .eq 14#4).wellFormed = true := by decide

/-- AArch64StateRefused. -/
theorem witness_aarch64 : ((base .el1 noEl2).enterEl1A64).pstate.exState = .aarch64 := by decide

/-- MisalignedPcFaults: in A32 a pc off by one halfword, in T32 off by one byte. -/
theorem witness_misaligned :
    (let s : State := { base .el1 noEl2 with pc := 0x8002#32 };
      s.pstate.exState = .aarch32 ∧ s.pstate.iset = .a32 ∧ s.pc.toNat % 4 ≠ 0) ∧
    (let s : State := { (base .el1 noEl2).placeWord .t32 0#32 with pc := 0x8001#32 };
      s.pstate.exState = .aarch32 ∧ s.pstate.iset = .t32 ∧ s.pc.toNat % 2 ≠ 0) := by decide

/-- ContextSuppliedForNextAccess, StepKeepsInv and LevelRisesOnlyByException: steps that answer a next
state, with a context queued and with none, and from EL0, which raises. -/
theorem witness_steps :
    (∃ u, step (holding .el1 .a32 0xEE100FB2#32) = .next u ∧
      (holding .el1 .a32 0xEE100FB2#32).ctxQueue = []) ∧
    (∃ u, step { holding .el2 .a32 0xEE100FB2#32 with ctxQueue := [supplyOf .el1 noEl2] } =
      .next u) ∧
    (∃ u, step (holding .el0 .a32 0xEE100FB2#32) = .next u ∧
      u.lastResult = some (.raised .undefined) ∧ u.pstate.el = .el1) ∧
    (holding .el1 .a32 0xEE100FB2#32).Inv :=
  ⟨⟨_, rfl, rfl⟩, ⟨_, rfl⟩, ⟨_, rfl, rfl, rfl⟩, by decide, nofun, by decide, by decide⟩

/-- StepKeepsInv: the invariant where an outcome is noted, a value. -/
theorem witness_inv_after_read : ((base .el2 noEl2).readInto 3).Inv :=
  ⟨by decide, fun v h _ => by cases h; decide, by decide, by decide⟩

/-- WhoInterceptsWhom: each outcome occurs. -/
theorem witness_intercepted :
    access 0#32 (base .el3 noEl2).ctx = .value 0#32 ∧
    access 0#32 (base .el0 noEl2).ctx = .raised .undefined ∧
    access 0#32 (base .el1 (controls true true false false false true)).ctx =
      .raised (.hypTrap 0x03#8) ∧
    access 0#32 (base .el1 (controls true false false false true false)).ctx =
      .raised (.a64SystemAccessTrap .el2 0x03#8) := by decide

/-- UnconsultedControlsIrrelevant: at EL1 with EL2 using AArch32, with EL2 using AArch64, and with EL2
not enabled, two contexts that differ only in what is not looked at. -/
theorem witness_unconsulted :
    (let c := (base .el1 (controls true true false true false true)).ctx;
     let d := (base .el1 (controls true true true true true true)).ctx;
      c.el = d.el ∧ c.el2Enabled = d.el2Enabled ∧ c.el2UsingAArch32 = d.el2UsingAArch32 ∧
        c.el2UsingAArch32 = true ∧ c.hstrT0 = d.hstrT0 ∧ c.hcrTid3 = d.hcrTid3 ∧ c ≠ d) ∧
    (let c := (base .el1 (controls true false true false true false)).ctx;
     let d := (base .el1 (controls true false true true true true)).ctx;
      c.el = d.el ∧ c.el2Enabled = d.el2Enabled ∧ c.el2UsingAArch32 = d.el2UsingAArch32 ∧
        c.el2UsingAArch32 = false ∧ c.hstrEl2T0 = d.hstrEl2T0 ∧ c.hcrEl2Tid3 = d.hcrEl2Tid3 ∧
        c ≠ d) ∧
    (let c := (base .el1 (controls false true true true true true)).ctx;
     let d := (base .el1 noEl2).ctx;
      c.el = d.el ∧ c.el2Enabled = d.el2Enabled ∧ c.el2Enabled = false ∧ c ≠ d) := by decide

/-- AllowedReadCompletes, ReadGivesEveryField, BootRequirement, RepeatedReadsAgree, DestinationCorners:
EL1 with EL2 enabled and its applicable bits clear, EL2, and EL3. -/
theorem witness_allowed :
    (base .el1 (controls true false false true false true)).condPassed = true ∧
    (base .el1 (controls true false false true false true)).ctx.readAllowed = true ∧
    (base .el1 (controls true true true false true false)).ctx.readAllowed = true ∧
    (base .el2 noEl2).ctx.readAllowed = true ∧ (base .el3 noEl2).ctx.readAllowed = true ∧
    (base .el1 noEl2).cfg.raw.aarch32AnyEl = true ∧
    (base .el1 noEl2).readResult = .value 0x11011121#32 := by decide

/-- AbsentRegisterGivesDraw. -/
theorem witness_absent :
    ({ base .el2 noEl2 with cfg := cfgAbsent } : State).cfg.raw.aarch32AnyEl = false ∧
    ({ base .el2 noEl2 with cfg := cfgAbsent } : State).ctx.readAllowed = true ∧
    ({ base .el2 noEl2 with cfg := cfgAbsent } : State).condPassed = true := by decide

/-- MappedToEl1View, both clauses. -/
theorem witness_view :
    (base .el2 noEl2).cfg.raw.aarch32AnyEl = true ∧
    ({ base .el2 noEl2 with cfg := cfgAbsent } : State).cfg.raw.aarch32AnyEl = false := by decide

/-- RepeatedReadsAgree: one context in two states, its condition failed, with another register file. -/
theorem witness_same_context :
    (let s := baseFailed .el0 noEl2;
     let s' : State := (s.writeReg 4 7#32).advancePc;
      s.cfg.raw.aarch32AnyEl = true ∧ s'.cfg = s.cfg ∧ s'.ctx = s.ctx ∧ s'.readReg 4 ≠ s.readReg 4) := by
  decide

/-- UndefinedTakenToUndefinedMode and HypTrapTaken: the second clause's hypothesis, after a failed
condition too, on an implementation that raises there. -/
theorem witness_failed_raises :
    (Config.failedCondRaises (baseFailed .el0 noEl2).ctx = true →
      (baseFailed .el0 noEl2).readResult = .raised .undefined) ∧
    (base .el0 noEl2).readResult = .raised .undefined ∧
    (base .el1 (controls true true false true false false)).readResult =
      .raised (.hypTrap 0x03#8) ∧
    (base .el1 (controls true false true false false false)).readResult =
      .raised (.a64SystemAccessTrap .el2 0x03#8) :=
  ⟨fun h => if_pos h, by decide, by decide, by decide⟩

/-- FailedConditionAdmitsBoth and FailedConditionIsNop: the access a value, and an exception. -/
theorem witness_failed_condition :
    (baseFailed .el3 noEl2).condPassed = false ∧ (baseFailed .el3 noEl2).ctx.readAllowed = true ∧
    access 0#32 (baseFailed .el3 noEl2).ctx = .value 0#32 ∧
    (baseFailed .el3 noEl2).readResult = .nop ∧
    access 0#32 (baseFailed .el0 noEl2).ctx = .raised .undefined := by decide

/-- ExceptionsArePrecise, ReadFrame, ExceptionRegistersFrame: executions with each outcome. -/
theorem witness_outcomes :
    (∃ u, exec (.mrcA1 .al 14#4) (base .el3 noEl2) = .next u ∧
      u.lastResult = some (.value 0x11011121#32)) ∧
    (∃ u, exec (.mrcT1 0#4) (base .el0 noEl2) = .next u ∧
      u.lastResult = some (.raised .undefined)) ∧
    (∃ u, exec (.mrcT1 0#4) (base .el1 (controls true true false true false false)) = .next u ∧
      u.lastResult = some (.raised (.hypTrap 0x03#8))) ∧
    (∃ u, exec (.mrcT1 0#4) (base .el1 (controls true false true false false false)) = .next u ∧
      u.lastResult = some (.raised (.a64SystemAccessTrap .el2 0x03#8))) ∧
    (14#4 = rtOf 14 ∧ 0#4 = rtOf 0) :=
  ⟨⟨_, rfl, rfl⟩, ⟨_, rfl, rfl⟩, ⟨_, rfl, rfl⟩, ⟨_, rfl, rfl⟩, by decide⟩

/-- HypTrapTaken, by each of its two bits. -/
theorem witness_hyp_trap :
    (let s := base .el1 (controls true true false true false false);
      s.condPassed = true ∧ s.pstate.el = .el1 ∧ s.el2.enabled = true ∧
        s.el2.usingAArch32 = true ∧ s.el2.hstrT0 = true) ∧
    (let s := base .el1 (controls true true false false false true);
      s.condPassed = true ∧ s.pstate.el = .el1 ∧ s.el2.enabled = true ∧
        s.el2.usingAArch32 = true ∧ s.el2.hcrTid3 = true) := by decide

/-- A64TrapTaken, by each of its two bits, from a copy that is not banked and from one that is. -/
theorem witness_a64_trap :
    (let s := base .el1 (controls true false true false false false);
      s.condPassed = true ∧ s.pstate.el = .el1 ∧ s.el2.enabled = true ∧
        s.el2.usingAArch32 = false ∧ s.el2.hstrEl2T0 = true ∧ (s.regIndex 12).val < 15) ∧
    (let s := base .el1 (controls true false false false true false);
      s.condPassed = true ∧ s.pstate.el = .el1 ∧ s.el2.enabled = true ∧
        s.el2.usingAArch32 = false ∧ s.el2.hcrEl2Tid3 = true ∧ ¬(s.regIndex 13).val < 15) := by
  decide

/-- UndefinedTakenToUndefinedMode, UndefinedTakenToEl1A64 and ExceptionRegistersFrame. -/
theorem witness_undefined_to_el1 :
    (let s := base .el0 noEl2;
      s.condPassed = true ∧ s.pstate.el = .el0 ∧ s.tgeRoutes = false ∧
        s.el1UsingAArch32 = true ∧ s.readResult = .raised .undefined) ∧
    (let s : State := { base .el0 noEl2 with el1UsingAArch32 := false };
      s.condPassed = true ∧ s.pstate.el = .el0 ∧ s.tgeRoutes = false ∧
        s.el1UsingAArch32 = false ∧ s.readResult = .raised .undefined) := by decide

/-- UndefinedRoutedByTge and ExceptionRegistersFrame, each clause. -/
theorem witness_undefined_by_tge :
    (let s := base .el0 { controls true true false false false false with hcrTge := true };
      s.condPassed = true ∧ s.pstate.el = .el0 ∧ s.el2.enabled = true ∧
        s.el2.usingAArch32 = true ∧ s.el2.hcrTge = true ∧ s.tgeRoutes = true ∧
        s.readResult = .raised .undefined) ∧
    (let s := base .el0 { controls true false false false false false with hcrEl2Tge := true };
      s.condPassed = true ∧ s.pstate.el = .el0 ∧ s.el2.enabled = true ∧
        s.el2.usingAArch32 = false ∧ s.el2.hcrEl2Tge = true ∧ s.tgeRoutes = true ∧
        s.readResult = .raised .undefined) := by decide

/-- ReadsAgreeAtAnyDistance: a run of one step between two successful reads. -/
theorem witness_reach :
    ∃ u, Reaches 1 (holding .el2 .a32 0xEE101FB2#32) u ∧
      (holding .el2 .a32 0xEE101FB2#32).cfg.raw.aarch32AnyEl = true ∧
      (holding .el2 .a32 0xEE101FB2#32).readResult = .value 0x11011121#32 ∧
      u.readResult = .value 0x11011121#32 :=
  ⟨_, ⟨_, rfl, rfl⟩, by decide, by decide, by decide⟩

/-- PermittedValues: a configuration at each boundary of the version, and one that is refused. -/
theorem witness_versions :
    (Cfg.check cfgSmall.raw).isSome = true ∧ (Cfg.check cfgFull.raw).isSome = true ∧
    (Cfg.check { cfgFull.raw with archMinor := 2, vcma := 0#4 }).isSome = true ∧
    (Cfg.check { cfgFull.raw with archMinor := 1, rdm := 0#4 }).isSome = false := by decide

/-- DisallowedReadLearnsNothing: EL0, and EL1 trapped; on a PE of another configuration. -/
theorem witness_disallowed :
    (base .el0 noEl2).ctx.readAllowed = false ∧
    (base .el1 (controls true true false false false true)).ctx.readAllowed = false ∧
    ((base .el0 noEl2).onPe cfgSmall).idIsar5 ≠ (base .el0 noEl2).idIsar5 := by decide

end Sys2Proof.Tests
end

section
/-! The scope of the model: one context at each access (R5), and AArch32 state only (R9). -/

namespace Sys2Proof.Machine

/-! ### Rules of the step and of the supply -/

/-- Fetching meets no instruction of the spec in AArch64 state (R9). -/
theorem State.fetch_of_aarch64 {s : State} (h : s.pstate.exState = .aarch64) :
    s.fetch = .outside .aarch64State := by
  simp [State.fetch, h]

/-- What fetching puts outside the spec is refused for that reason. -/
theorem step_of_fetch_outside {s : State} {r : Refusal} (h : s.fetch = .outside r) :
    step s = .refused r := by
  simp [step, h]

theorem State.supplyCtx_of_nil {s : State} (h : s.ctxQueue = []) : s.supplyCtx = s := by
  simp [State.supplyCtx, h]

theorem State.supplyCtx_of_cons {s : State} {p : Supply} {rest : List Supply}
    (h : s.ctxQueue = p :: rest) :
    s.supplyCtx = { s.withSupply p with ctxQueue := rest } := by
  simp [State.supplyCtx, h]

/-- A read leaves the queue alone, so the supply that follows it is the oldest one queued before. -/
theorem State.supplyCtx_readInto_of_cons {s : State} {p : Supply} {rest : List Supply}
    (t : Fin 15) (h : s.ctxQueue = p :: rest) :
    (s.readInto t).supplyCtx = { (s.readInto t).withSupply p with ctxQueue := rest } :=
  State.supplyCtx_of_cons ((s.readInto_keeps t).ctxQueue.trans h)

/-- With nothing queued, the read is the whole step. -/
theorem State.supplyCtx_readInto_of_nil {s : State} (t : Fin 15) (h : s.ctxQueue = []) :
    (s.readInto t).supplyCtx = s.readInto t :=
  State.supplyCtx_of_nil ((s.readInto_keeps t).ctxQueue.trans h)

/-! ### The obligations -/

/-- Settles O13: a step that answers a next state is a read, which keeps the queue and the inputs,
followed by the supply. -/
theorem contextSuppliedForNextAccess : Obligations.ContextSuppliedForNextAccess := by
  intro s u p rest hstep
  obtain ⟨_, t, -, -, rfl⟩ := step_next hstep
  constructor
  · intro hq
    rw [State.supplyCtx_readInto_of_cons t hq]
    exact ⟨rfl, rfl, rfl, rfl, rfl, rfl⟩
  · intro hq
    rw [State.supplyCtx_readInto_of_nil t hq]
    have keeps := s.readInto_keeps t
    exact ⟨keeps.ctxQueue.trans hq, keeps.condPassed, keeps.el2, keeps.el1UsingAArch32⟩

/-- Settles O11: in AArch64 state the fetch is already outside the spec, before memory is looked at. -/
theorem aarch64StateRefused : Obligations.AArch64StateRefused :=
  fun _ h => step_of_fetch_outside (State.fetch_of_aarch64 h)

end Sys2Proof.Machine
end

section
/-! The register's value and its fields: R11 and R14, what R23 permits, and what R27 concludes. -/

namespace Sys2Proof

/-! ### Extraction, by place and by mask (R14) -/

/-- Every mask is the four bits of a nibble, moved to the field's place. -/
theorem Field.mask_eq_shiftLeft (f : Field) : f.mask = 0xF#32 <<< f.lo := by
  cases f <;> rfl

theorem Field.of_setWidth (f : Field) (v : Word) :
    (f.of v).setWidth 32 = (v >>> f.lo) &&& 0xF#32 := by
  have hlt : v.toNat >>> f.lo % 2 ^ 4 < 2 ^ 32 := (Nat.mod_lt _ (by decide)).trans (by decide)
  apply BitVec.eq_of_toNat_eq
  rw [Field.of, BitVec.toNat_setWidth, BitVec.extractLsb'_toNat, Nat.mod_eq_of_lt hlt,
    BitVec.toNat_and, BitVec.toNat_ushiftRight]
  exact (Nat.and_two_pow_sub_one_eq_mod _ 4).symm

theorem Field.and_mask (f : Field) (v : Word) :
    v &&& f.mask = (f.of v).setWidth 32 <<< f.lo := by
  rw [f.mask_eq_shiftLeft, f.of_setWidth, BitVec.shiftLeft_and_distrib]
  ext i hi
  by_cases h : i < f.lo
  · simp [h]
  · simp [h, Nat.add_sub_cancel' (Nat.le_of_not_lt h), BitVec.getLsbD_eq_getElem hi]

/-- Putting a nibble at a field's place and extracting the field gives it back. -/
theorem Field.of_shiftLeft (f : Field) (x : BitVec 4) : f.of (x.setWidth 32 <<< f.lo) = x := by
  cases f <;> revert x <;> decide

theorem Field.masks_disjoint (f g : Field) : f ≠ g → f.mask &&& g.mask = 0#32 := by
  cases f <;> cases g <;> decide

theorem Field.masks_union :
    Field.vcma.mask ||| Field.rdm.mask ||| Field.res0.mask ||| Field.crc32.mask |||
      Field.sha2.mask ||| Field.sha1.mask ||| Field.aes.mask ||| Field.sevl.mask =
        0xFFFFFFFF#32 := by
  decide

/-- A value is the union of its masked parts, and each of those is given by a field. -/
theorem Field.ext_of {v v' : Word} (h : ∀ f : Field, f.of v = f.of v') : v = v' := by
  have hmask (f : Field) : v &&& f.mask = v' &&& f.mask := by rw [f.and_mask, f.and_mask, h]
  calc v = v &&& 0xFFFFFFFF#32 := BitVec.and_allOnes.symm
    _ = v' &&& 0xFFFFFFFF#32 := by
      simp only [← Field.masks_union, BitVec.and_or_distrib_left, hmask]
    _ = v' := BitVec.and_allOnes

/-- Settles O41: the mask is a nibble at the field's place, so masking is extraction put back. -/
theorem fieldExtraction : Obligations.FieldExtraction :=
  ⟨fun f v => ⟨f.of_setWidth v, f.and_mask v⟩, Field.masks_disjoint, Field.masks_union,
    fun _ _ => ⟨fun h _ => h ▸ rfl, Field.ext_of⟩⟩

/-! ### The register from the configuration (R11) -/

/-- Putting two bit strings side by side is a sum, the high one at its place. -/
theorem toNat_append_eq_add {m n : Nat} (x : BitVec m) (y : BitVec n) :
    (x ++ y).toNat = x.toNat * 2 ^ n + y.toNat := by
  rw [BitVec.toNat_append, ← Nat.shiftLeft_add_eq_or_of_lt y.isLt, Nat.shiftLeft_eq]

/-- The concatenation is a sum, each field at its place and nothing at the place of RES0. -/
theorem Cfg.toNat_idIsar5 (c : Cfg) :
    c.idIsar5.toNat = c.vcma.toNat * 2 ^ 28 + c.rdm.toNat * 2 ^ 24 + c.crc32.toNat * 2 ^ 16 +
      c.sha2.toNat * 2 ^ 12 + c.sha1.toNat * 2 ^ 8 + c.aes.toNat * 2 ^ 4 + c.sevl.toNat := by
  simp only [Cfg.idIsar5, toNat_append_eq_add, BitVec.toNat_ofNat]
  omega

/-- Extracting a field of the register gives the configuration's field, zero for RES0 (R17). -/
@[simp] theorem Cfg.of_idIsar5 (c : Cfg) (f : Field) : f.of c.idIsar5 = c.field f := by
  apply BitVec.eq_of_toNat_eq
  rw [Field.of, BitVec.extractLsb'_toNat, Nat.shiftRight_eq_div_pow, c.toNat_idIsar5]
  cases f <;> simp only [Field.lo, Cfg.field, BitVec.toNat_ofNat] <;> omega

/-- Settles O40: the value is the sum of its fields, and what stands at RES0 is zero. -/
theorem registerLayout : Obligations.RegisterLayout :=
  fun c => ⟨c.toNat_idIsar5, c.of_idIsar5 .res0⟩

/-! ### Features (R27) -/

/-- A masked field of the register has a value exactly where the configuration's field has it. -/
theorem Cfg.idIsar5_and_mask_eq_iff (c : Cfg) (f : Field) (x : BitVec 4) :
    c.idIsar5 &&& f.mask = x.setWidth 32 <<< f.lo ↔ c.field f = x := by
  rw [f.and_mask, c.of_idIsar5]
  exact ⟨fun h => by simpa [Field.of_shiftLeft] using congrArg f.of h, fun h => h ▸ rfl⟩

/-- The comparison of R27, a field with a defined value, read off the register. -/
theorem Cfg.field_beq_iff (c : Cfg) (f : Field) (x : BitVec 4) :
    (c.field f == x) = true ↔ c.idIsar5 &&& f.mask = x.setWidth 32 <<< f.lo :=
  beq_iff_eq.trans (c.idIsar5_and_mask_eq_iff f x).symm

/-- Settles O43: each row of R27 compares one field, AES with two values. -/
theorem featuresFromValue : Obligations.FeaturesFromValue := by
  intro c
  refine ⟨c.field_beq_iff .vcma 1#4, c.field_beq_iff .rdm 1#4, c.field_beq_iff .crc32 1#4,
    c.field_beq_iff .sha2 1#4, c.field_beq_iff .sha1 1#4, ?_, c.field_beq_iff .aes 2#4,
    c.field_beq_iff .sevl 1#4, c.field_beq_iff .sevl 0#4⟩
  exact (Bool.or_eq_true _ _).to_iff.trans
    (or_congr (c.field_beq_iff .aes 1#4) (c.field_beq_iff .aes 2#4))

end Sys2Proof
end

section
/-! The permitted configurations and their values, by version (R23). -/

namespace Sys2Proof

/-! ### The check -/

theorem Cfg.check_isSome_iff (c : Cfg) : (Cfg.check c).isSome = true ↔ c.permitted = true := by
  by_cases h : c.permitted = true <;> simp [Cfg.check, h]

theorem Cfg.raw_of_check {c : Cfg} {w : WfCfg} (h : Cfg.check c = some w) : w.raw = c := by
  unfold Cfg.check at h
  split at h
  · cases h; rfl
  · cases h

/-- The predicate of R23, field by field. -/
theorem Cfg.permitted_iff (c : Cfg) :
    c.permitted = true ↔
      (c.vcma = 1#4 ∨ c.archMinor < 3 ∧ c.vcma = 0#4) ∧
      (c.rdm = 1#4 ∨ c.archMinor < 1 ∧ c.rdm = 0#4) ∧
      (c.crc32 = 1#4 ∨ c.archMinor < 1 ∧ c.crc32 = 0#4) ∧
      (c.sha2 = 0#4 ∨ c.sha2 = 1#4) ∧ (c.sha1 = 0#4 ∨ c.sha1 = 1#4) ∧
      (c.aes = 0#4 ∨ c.aes = 2#4) ∧ c.sevl = 1#4 := by
  simp [Cfg.permitted, and_assoc]

/-! ### The permitted values of a version

The values are the image of a product of six lists, one for each field that may differ, so the library's
lemmas about products count them. -/

/-- The values of a field that must be 1 from some version on, and may be 0 where `old` holds. -/
def oneOrOldZero (old : Bool) : List (BitVec 4) :=
  if old then [0#4, 1#4] else [1#4]

theorem mem_oneOrOldZero {p : Prop} [Decidable p] {x : BitVec 4} :
    x ∈ oneOrOldZero (decide p) ↔ x = 1#4 ∨ p ∧ x = 0#4 := by
  by_cases h : p <;> simp [oneOrOldZero, h, or_comm]

theorem oneOrOldZero_nodup (old : Bool) : (oneOrOldZero old).Nodup := by
  cases old <;> decide

theorem oneOrOldZero_length (old : Bool) :
    (oneOrOldZero old).length = if old then 2 else 1 := by
  cases old <;> rfl

/-- VCMA, RDM, CRC32, SHA2, SHA1 and AES: the fields of which R23 permits more than one value. -/
abbrev OpenFields :=
  BitVec 4 × BitVec 4 × BitVec 4 × BitVec 4 × BitVec 4 × BitVec 4

def Cfg.openFields (c : Cfg) : OpenFields :=
  (c.vcma, c.rdm, c.crc32, c.sha2, c.sha1, c.aes)

/-- The configuration of Armv8.n with these fields, AArch32 supported. -/
def OpenFields.cfg (n : Nat) : OpenFields → Cfg
  | (vcma, rdm, crc32, sha2, sha1, aes) =>
    { archMinor := n, aarch32AnyEl := true, vcma, rdm, crc32, sha2, sha1, aes, sevl := 1#4 }

/-- The register with these fields; the version does not show in it. -/
def OpenFields.value (p : OpenFields) : Word :=
  (p.cfg 0).idIsar5

/-- The value shows every field, so two values are equal only where the fields are. -/
theorem OpenFields.value_injective : Function.Injective OpenFields.value := by
  intro p q h
  have hfield (f : Field) : (p.cfg 0).field f = (q.cfg 0).field f := by
    simpa [OpenFields.value] using congrArg f.of h
  calc p = (p.cfg 0).openFields := rfl
    _ = (q.cfg 0).openFields := by
      simp only [Cfg.openFields, Prod.mk.injEq]
      exact ⟨hfield .vcma, hfield .rdm, hfield .crc32, hfield .sha2, hfield .sha1, hfield .aes⟩
    _ = q := rfl

/-- The fields that R23 permits in Armv8.n. -/
def permittedFields (n : Nat) : List OpenFields :=
  oneOrOldZero (n < 3) ×ˢ oneOrOldZero (n < 1) ×ˢ oneOrOldZero (n < 1) ×ˢ [0#4, 1#4] ×ˢ
    [0#4, 1#4] ×ˢ [0#4, 2#4]

theorem permittedFields_nodup (n : Nat) : (permittedFields n).Nodup :=
  have zeroOne : [0#4, 1#4].Nodup := by decide
  (oneOrOldZero_nodup _).product <| (oneOrOldZero_nodup _).product <|
    (oneOrOldZero_nodup _).product <| zeroOne.product <| zeroOne.product (by decide)

theorem mem_permittedFields {n : Nat} {vcma rdm crc32 sha2 sha1 aes : BitVec 4} :
    (vcma, rdm, crc32, sha2, sha1, aes) ∈ permittedFields n ↔
      (vcma = 1#4 ∨ n < 3 ∧ vcma = 0#4) ∧ (rdm = 1#4 ∨ n < 1 ∧ rdm = 0#4) ∧
      (crc32 = 1#4 ∨ n < 1 ∧ crc32 = 0#4) ∧ (sha2 = 0#4 ∨ sha2 = 1#4) ∧
      (sha1 = 0#4 ∨ sha1 = 1#4) ∧ (aes = 0#4 ∨ aes = 2#4) := by
  simp only [permittedFields, List.mem_product, mem_oneOrOldZero, List.mem_cons, List.not_mem_nil,
    or_false]

/-- The predicate of R23 is that of the list, and SEVL, of which it permits one value. -/
theorem Cfg.permitted_iff_openFields (c : Cfg) :
    c.permitted = true ↔ c.openFields ∈ permittedFields c.archMinor ∧ c.sevl = 1#4 := by
  simp only [c.permitted_iff, Cfg.openFields, mem_permittedFields, and_assoc]

theorem OpenFields.cfg_permitted {n : Nat} {p : OpenFields} (h : p ∈ permittedFields n) :
    (p.cfg n).permitted = true :=
  (p.cfg n).permitted_iff_openFields.mpr ⟨h, rfl⟩

/-- The register values of the permitted configurations of Armv8.n. -/
def permittedWords (n : Nat) : List Word :=
  (permittedFields n).map OpenFields.value

theorem mem_permittedWords {n : Nat} {v : Word} :
    v ∈ permittedWords n ↔ ∃ w : WfCfg, w.raw.archMinor = n ∧ w.raw.idIsar5 = v := by
  constructor
  · intro hv
    obtain ⟨p, hp, rfl⟩ := List.mem_map.mp hv
    exact ⟨⟨p.cfg n, OpenFields.cfg_permitted hp⟩, rfl, rfl⟩
  · rintro ⟨⟨c, hok⟩, rfl, rfl⟩
    obtain ⟨hp, hsevl⟩ := c.permitted_iff_openFields.mp hok
    refine List.mem_map.mpr ⟨c.openFields, hp, ?_⟩
    simp only [Cfg.idIsar5, hsevl]
    rfl

theorem permittedWords_nodup (n : Nat) : (permittedWords n).Nodup :=
  (permittedFields_nodup n).map OpenFields.value_injective

theorem permittedWords_length (n : Nat) :
    (permittedWords n).length = if n = 0 then 64 else if n < 3 then 16 else 8 := by
  simp only [permittedWords, permittedFields, List.length_map, List.length_product,
    oneOrOldZero_length, List.length_cons, List.length_nil, decide_eq_true_eq]
  split_ifs <;> omega

/-! ### The smallest and the largest -/

/-- R23: the smallest permitted value of Armv8.n. -/
def leastPermitted (n : Nat) : Word :=
  if n = 0 then 0x00000001#32 else if n < 3 then 0x01010001#32 else 0x11010001#32

/-- The fields of the smallest permitted value: 0 wherever R23 permits 0. -/
def leastFields (n : Nat) : OpenFields :=
  if n = 0 then (0#4, 0#4, 0#4, 0#4, 0#4, 0#4)
  else if n < 3 then (0#4, 1#4, 1#4, 0#4, 0#4, 0#4)
  else (1#4, 1#4, 1#4, 0#4, 0#4, 0#4)

theorem leastFields_mem (n : Nat) : leastFields n ∈ permittedFields n := by
  unfold leastFields
  split_ifs <;> simp [mem_permittedFields, *]

theorem leastFields_value (n : Nat) : (leastFields n).value = leastPermitted n := by
  unfold leastFields leastPermitted
  split_ifs <;> decide

theorem leastPermitted_mem (n : Nat) : leastPermitted n ∈ permittedWords n :=
  List.mem_map.mpr ⟨leastFields n, leastFields_mem n, leastFields_value n⟩

theorem greatestPermitted_mem (n : Nat) : 0x11011121#32 ∈ permittedWords n :=
  List.mem_map.mpr ⟨(1#4, 1#4, 1#4, 1#4, 1#4, 2#4),
    by simp [mem_permittedFields], by decide⟩

theorem Cfg.permitted_bounds {c : Cfg} (h : c.permitted = true) :
    leastPermitted c.archMinor ≤ c.idIsar5 ∧ c.idIsar5 ≤ 0x11011121#32 := by
  simp only [Cfg.permitted_iff, ← BitVec.toNat_inj, BitVec.toNat_ofNat] at h
  obtain ⟨hvcma, hrdm, hcrc32, hsha2, hsha1, haes, hsevl⟩ := h
  rw [BitVec.le_def, BitVec.le_def, c.toNat_idIsar5]
  unfold leastPermitted
  split_ifs <;> simp only [BitVec.toNat_ofNat] <;> omega

/-- Settles O42: the values are counted as a product of the fields' lists, and bounded as a sum of
fields. -/
theorem permittedValues : Obligations.PermittedValues := by
  refine ⟨fun c => ⟨c.check_isSome_iff.trans c.permitted_iff, fun _ => Cfg.raw_of_check,
    c.of_idIsar5 .res0⟩, fun n => ⟨permittedWords n, fun _ => mem_permittedWords,
    permittedWords_nodup n, permittedWords_length n, leastPermitted_mem n,
    greatestPermitted_mem n, ?_⟩⟩
  intro v hv
  obtain ⟨w, rfl, rfl⟩ := mem_permittedWords.mp hv
  exact Cfg.permitted_bounds w.ok

end Sys2Proof
end

section
/-! The register's state: what a read and a step leave of it, who learns its value, its second name, and
its value after reset (R12, R13, R17, R24, R25, R38, R42). -/

namespace Sys2Proof.Machine

/-! ### The register in a state (R12, R13) -/

theorem State.valueRead_of_present {s : State} (h : s.cfg.raw.aarch32AnyEl = true) :
    s.valueRead = s.idIsar5 :=
  if_pos h

theorem State.valueRead_of_absent {s : State} (h : s.cfg.raw.aarch32AnyEl = false) :
    s.valueRead = Config.unknown32 s.draws := by
  simp [State.valueRead, h]

/-- Nothing but the configuration bears on the register. -/
theorem State.idIsar5_congr {s u : State} (h : u.cfg = s.cfg) : u.idIsar5 = s.idIsar5 := by
  simp only [State.idIsar5, h]

/-- A field of the register is the configuration's, zero for RES0 (R17). -/
@[simp] theorem State.of_idIsar5 (s : State) (f : Field) : f.of s.idIsar5 = s.cfg.raw.field f :=
  s.cfg.raw.of_idIsar5 f

/-- Settles O44: the view is the read by the other name, and widening keeps its bits. -/
theorem mappedToEl1View : Obligations.MappedToEl1View := by
  intro s
  refine ⟨rfl, State.valueRead_of_present, State.valueRead_of_absent, ?_⟩
  rw [State.idIsar5El1, BitVec.extractLsb'_setWidth_of_le (by decide), BitVec.extractLsb'_eq_self]

/-- Settles O45: the configuration at reset carries the proof that it is permitted. -/
theorem resetRegisterValue : Obligations.ResetRegisterValue :=
  ⟨rfl, Config.atReset.ok, State.reset.of_idIsar5 .res0⟩

/-! ### The access check by whether the read is allowed (R24) -/

/-- The access check in terms of the two traps. At EL1 the four bits are looked at two by two, by EL2's
state. -/
theorem access_eq (v : Word) (c : Ctx) :
    access v c =
      if c.el = .el0 then .raised .undefined
      else if c.trapsToA64 then .raised (.a64SystemAccessTrap .el2 0x03#8)
      else if c.trapsToHyp then .raised (.hypTrap 0x03#8)
      else .value v := by
  obtain ⟨el, enabled, a32, t0', t0, tid3', tid3, _, _⟩ := c
  cases el with
  | el0 => rfl
  | el1 =>
    cases enabled
    · rfl
    cases a32
    · cases t0' <;> cases tid3' <;> rfl
    · cases t0 <;> cases tid3 <;> rfl
  | el2 => rfl
  | el3 => rfl

theorem access_of_readAllowed {c : Ctx} (v : Word) (h : c.readAllowed = true) :
    access v c = .value v := by
  simp only [Ctx.readAllowed, Bool.and_eq_true, bne_iff_ne, Bool.not_eq_true'] at h
  obtain ⟨⟨h0, hhyp⟩, ha64⟩ := h
  simp [access_eq, h0, hhyp, ha64]

/-- Where the read is not allowed the access raises, and the register's value has no part in it. -/
theorem access_of_not_readAllowed {c : Ctx} (h : c.readAllowed = false) :
    ∃ e, ∀ v, access v c = .raised e := by
  simp only [access_eq]
  split_ifs with h0 ha64 hhyp
  · exact ⟨_, fun _ => rfl⟩
  · exact ⟨_, fun _ => rfl⟩
  · exact ⟨_, fun _ => rfl⟩
  · simp [Ctx.readAllowed, h0, ha64, hhyp] at h

/-! ### The outcome -/

theorem State.readResult_of_readAllowed {s : State} (hc : s.condPassed = true)
    (ha : s.ctx.readAllowed = true) : s.readResult = .value s.valueRead := by
  simp [State.readResult, hc, access_of_readAllowed _ ha]

/-- An outcome that is a value is the value read. -/
theorem State.eq_valueRead_of_readResult {s : State} {v : Word} (h : s.readResult = .value v) :
    v = s.valueRead := by
  obtain hr | ⟨-, hr⟩ := s.readResult_cases
  · obtain ha | ⟨ha, -⟩ | ⟨ha, -⟩ | ⟨ha, -⟩ := access_cases s.valueRead s.ctx <;>
      rw [h, ha] at hr <;> cases hr
    rfl
  · rw [h] at hr
    cases hr

/-! ### The frame of the read -/

/-- `exec` of an instruction that names register `t`. -/
theorem exec_of_rt {i : Instr} {t : Fin 15} (h : i.rt = rtOf t) (s : State) :
    exec i s = .next (s.readInto t) := by
  rw [exec_eq, h, destOf_rtOf]

/-- A value is what the destination holds after the read. -/
theorem State.readReg_readInto_of_value {s : State} {t : Fin 15} {v : Word}
    (h : s.readResult = .value v) : (s.readInto t).readReg t = v := by
  rw [State.readInto, h]
  exact s.readReg_writeReg_same t v

/-- The vector bases, which no read and no supply changes. -/
structure State.VectorBasesKept (s u : State) : Prop where
  hvbar : u.hypRegs.hvbar = s.hypRegs.hvbar
  vbar : u.el2Regs.vbar = s.el2Regs.vbar
  vectorBase : u.el1Regs.vectorBase = s.el1Regs.vectorBase

theorem State.takeException_vectorBases (s : State) (e : Exc) (t : Fin 15) :
    s.VectorBasesKept (s.takeException e t) := by
  obtain ⟨_, _, h⟩ | ⟨_, _, _, h⟩ | ⟨-, -, -, h⟩ | ⟨-, -, -, h⟩ := s.takeException_cases e t <;>
    rw [h] <;> constructor <;> rfl

theorem State.readInto_vectorBases (s : State) (t : Fin 15) :
    s.VectorBasesKept (s.readInto t) := by
  unfold State.readInto State.applyResult
  cases s.readResult with
  | value v => constructor <;> rfl
  | nop => constructor <;> rfl
  | raised e =>
    obtain ⟨h1, h2, h3⟩ := s.takeException_vectorBases e t
    exact ⟨h1, h2, h3⟩

/-- Of the register copies an exception's entry changes LR of Undefined mode at most, and that only
where it takes an `Undefined`. -/
theorem State.takeException_gpr_get (s : State) {e : Exc} (t : Fin 15) {j : Fin 33}
    (h : e = .undefined → j ≠ physIndex .undefined 14) :
    (s.takeException e t).gpr.get j = s.gpr.get j := by
  obtain ⟨_, _, hx⟩ | ⟨_, _, _, hx⟩ | ⟨he, -, -, hx⟩ | ⟨-, -, -, hx⟩ := s.takeException_cases e t <;>
    rw [hx]
  · rfl
  · rfl
  · exact gpr_get_set_other _ _ (h he).symm
  · rfl

theorem State.readInto_gpr_get (s : State) {t : Fin 15} {j : Fin 33} (hj : j ≠ s.regIndex t)
    (hu : s.readResult = .raised .undefined → j ≠ physIndex .undefined 14) :
    (s.readInto t).gpr.get j = s.gpr.get j := by
  rw [State.readInto, State.noteResult_gpr]
  unfold State.applyResult
  cases hr : s.readResult with
  | value v => exact gpr_get_set_other _ v hj.symm
  | nop => rfl
  | raised e => exact s.takeException_gpr_get t fun he => hu (he ▸ hr)

/-- Settles O18: an allowed read leaves the register itself in Rt, whose fields are the
configuration's. -/
theorem readGivesEveryField : Obligations.ReadGivesEveryField := by
  intro s c t hc ha hp
  have hreg : (s.readInto t).readReg t = s.idIsar5 := by
    rw [State.readReg_readInto_of_value (State.readResult_of_readAllowed hc ha),
      State.valueRead_of_present hp]
  refine ⟨s.readInto t, exec_of_rt rfl s, exec_of_rt rfl s, ?_⟩
  rw [hreg]
  exact ⟨s.of_idIsar5 .vcma, s.of_idIsar5 .rdm, s.of_idIsar5 .res0, s.of_idIsar5 .crc32,
    s.of_idIsar5 .sha2, s.of_idIsar5 .sha1, s.of_idIsar5 .aes, s.of_idIsar5 .sevl⟩

/-- Settles O25: an execution that answers a next state is a read, and the frame is the read's. -/
theorem readFrame : Obligations.ReadFrame := by
  intro i s u t ht hx
  rw [exec_of_rt ht] at hx
  cases hx
  have keeps := s.readInto_keeps t
  have bases := s.readInto_vectorBases t
  refine ⟨keeps.cfg, keeps.el2, keeps.el1UsingAArch32, keeps.condPassed, keeps.ctxQueue, keeps.flags,
    fun a => by rw [keeps.mem], fun j hj hu => ?_, bases.hvbar, bases.vbar, bases.vectorBase⟩
  exact s.readInto_gpr_get hj fun hr => hu (congrArg some hr)

/-! ### The invariant -/

/-- The RES0 bits and the permitted configuration hold of every state by construction, so the invariant
says something of memory and of the outcome noted only. -/
theorem State.inv_iff (s : State) :
    s.Inv ↔ Mem.wf s.mem = true ∧
      ∀ v, s.lastResult = some (.value v) → s.cfg.raw.aarch32AnyEl = true → v = s.idIsar5 :=
  ⟨fun ⟨hmem, hnoted, _, _⟩ => ⟨hmem, hnoted⟩,
    fun ⟨hmem, hnoted⟩ => ⟨hmem, hnoted, s.of_idIsar5 .res0, s.cfg.ok⟩⟩

/-- Settles O38: memory is empty and no outcome is noted. -/
theorem resetMeetsInv : Obligations.ResetMeetsInv :=
  State.reset.inv_iff.mpr ⟨State.reset_wf, nofun⟩

/-- What every step keeps and records, from any state. -/
structure State.StepKeeps (s u : State) : Prop extends s.VectorBasesKept u where
  cfg : u.cfg = s.cfg
  mem : u.mem = s.mem
  flags : u.pstate.flags = s.pstate.flags
  draws : u.draws = s.draws + 1
  lastResult : u.lastResult = some s.readResult

/-- A step is a read and then a supply, and it keeps what both of them keep. -/
theorem step_keeps {s u : State} (h : step s = .next u) : s.StepKeeps u := by
  obtain ⟨_, t, -, -, rfl⟩ := step_next h
  have read := s.readInto_keeps t
  have bases := s.readInto_vectorBases t
  have supply := (s.readInto t).supplyCtx_keeps
  exact {
    cfg := supply.cfg.trans read.cfg
    mem := supply.mem.trans read.mem
    flags := supply.flags.trans read.flags
    draws := supply.draws.trans (s.readInto_draws t)
    lastResult := supply.lastResult
    hvbar := (congrArg HypRegs.hvbar supply.hypRegs).trans bases.hvbar
    vbar := (congrArg El2Regs.vbar supply.el2Regs).trans bases.vbar
    vectorBase := (congrArg El1Regs.vectorBase supply.el1Regs).trans bases.vectorBase }

/-- A value that a step notes is the one it read, which is ID_ISAR5 where the register is present. -/
theorem step_keeps_inv {s u : State} (h : step s = .next u) (hinv : s.Inv) : u.Inv := by
  have keeps := step_keeps h
  obtain ⟨hmem, -⟩ := s.inv_iff.mp hinv
  refine u.inv_iff.mpr ⟨keeps.mem ▸ hmem, fun v hv hp => ?_⟩
  have hr : s.readResult = .value v := Option.some.inj (keeps.lastResult.symm.trans hv)
  rw [keeps.cfg] at hp
  rw [State.idIsar5_congr keeps.cfg, ← State.valueRead_of_present hp]
  exact State.eq_valueRead_of_readResult hr

/-- Settles O37: a step keeps what a read and a supply keep, and notes the outcome of its read. -/
theorem stepKeepsInv : Obligations.StepKeepsInv := by
  intro s u h
  have keeps := step_keeps h
  exact ⟨step_keeps_inv h, keeps.cfg, State.idIsar5_congr keeps.cfg, keeps.mem, keeps.flags,
    keeps.hvbar, keeps.vbar, keeps.vectorBase, keeps.draws, by simp [keeps.lastResult]⟩

/-! ### Another PE's configuration (R24)

The configuration bears on a step through the value read alone, so where the read is not allowed each
part of a step commutes with changing it. -/

@[simp] theorem State.onPe_fetch (s : State) (c : WfCfg) : (s.onPe c).fetch = s.fetch := rfl

@[simp] theorem State.onPe_ctx (s : State) (c : WfCfg) : (s.onPe c).ctx = s.ctx := rfl

theorem State.onPe_readResult {s : State} (c : WfCfg) (h : s.ctx.readAllowed = false) :
    (s.onPe c).readResult = s.readResult := by
  obtain ⟨e, he⟩ := access_of_not_readAllowed h
  simp only [State.readResult, State.onPe_ctx, he]
  rfl

theorem State.onPe_takeException (s : State) (c : WfCfg) (e : Exc) (t : Fin 15) :
    (s.onPe c).takeException e t = (s.takeException e t).onPe c := by
  cases e with
  | undefined => simp only [State.takeException, apply_ite (State.onPe · c)]; rfl
  | hypTrap ec => rfl
  | a64SystemAccessTrap level ec => rfl

/-- An outcome has the same effect on either PE, whatever the outcome. -/
theorem State.onPe_applyResult (s : State) (c : WfCfg) (t : Fin 15) (r : Result) :
    (s.onPe c).applyResult t r = (s.applyResult t r).onPe c := by
  cases r with
  | value v => rfl
  | nop => rfl
  | raised e => exact s.onPe_takeException c e t

theorem State.onPe_readInto {s : State} (c : WfCfg) (t : Fin 15) (h : s.ctx.readAllowed = false) :
    (s.onPe c).readInto t = (s.readInto t).onPe c := by
  rw [State.readInto, State.onPe_readResult c h, State.onPe_applyResult]
  rfl

theorem State.onPe_supplyCtx (s : State) (c : WfCfg) :
    (s.onPe c).supplyCtx = s.supplyCtx.onPe c := by
  obtain ⟨hq, hs⟩ | ⟨p, rest, hq, hs⟩ := s.supplyCtx_cases
  · rw [hs]
    exact State.supplyCtx_of_nil hq
  · rw [hs]
    exact State.supplyCtx_of_cons hq

theorem exec_onPe {s : State} (i : Instr) (c : WfCfg) (h : s.ctx.readAllowed = false) :
    exec i (s.onPe c) = mapNext (State.onPe · c) (exec i s) := by
  rw [exec_eq, exec_eq]
  cases destOf i.rt with
  | none => rfl
  | some t => exact congrArg Host.Outcome.next (State.onPe_readInto c t h)

/-- Settles O39: both PEs fetch the same, execute alike where the read is not allowed, and are supplied
the same. -/
theorem disallowedReadLearnsNothing : Obligations.DisallowedReadLearnsNothing := by
  intro s c h
  unfold step
  rw [State.onPe_fetch]
  cases s.fetch with
  | stuck f => rfl
  | outside r => rfl
  | instr i =>
    dsimp only
    rw [exec_onPe i c h]
    cases i.wellFormed with
    | false => rfl
    | true =>
      cases exec i s with
      | next u => exact congrArg Host.Outcome.next (u.onPe_supplyCtx c)
      | fault f => rfl
      | refused r => rfl

end Sys2Proof.Machine
end

section
/-! Memory and instruction fetch (R44, R49), and runs of any length (R47): what a step runs is decided by
the fetch, and a run keeps what every step of it keeps. -/

namespace Sys2Proof.Machine

/-! ### The step by what the fetch meets -/

theorem step_of_fetch_stuck {s : State} {f : Fault} (h : s.fetch = .stuck f) :
    step s = .fault f := by
  simp [step, h]

theorem step_of_fetch_instr {s : State} {i : Instr} (h : s.fetch = .instr i)
    (hwf : i.wellFormed = true) : step s = mapNext State.supplyCtx (exec i s) := by
  simp only [step, h, hwf, if_true]
  cases exec i s <;> rfl

/-! ### The fetch in AArch32 state -/

theorem State.fetch_of_decode {s : State} {i : Instr} {rest : List Byte}
    (hex : s.pstate.exState = .aarch32) (halign : pcAligned s.pstate.iset s.pc = true)
    (hdec : decode s.pstate.iset s.fetchBytes = .ok (i, rest)) : s.fetch = .instr i := by
  simp [State.fetch, hex, halign, hdec]

theorem State.fetch_of_misaligned {s : State} (hex : s.pstate.exState = .aarch32)
    (halign : pcAligned s.pstate.iset s.pc = false) : s.fetch = .stuck .pcMisaligned := by
  simp [State.fetch, hex, halign]

/-- R44: the alignments of the two instruction sets. -/
theorem pcAligned_eq_false_iff (iset : ISet) (pc : Word) :
    pcAligned iset pc = false ↔
      iset = .a32 ∧ pc.toNat % 4 ≠ 0 ∨ iset = .t32 ∧ pc.toNat % 2 ≠ 0 := by
  cases iset <;> simp [pcAligned]

theorem pcAligned_placePc (iset : ISet) (pc : Word) : pcAligned iset (placePc iset pc) = true :=
  (Bool.and_eq_true_iff.mp (pcHoldsInstr_placePc iset pc)).1

theorem decodeTableWord_eq_some {nbits w : Nat} {i : Instr} (h : decodeTableWord nbits w = some i) :
    ∃ rest, decode (tableISet (tableWord nbits w))
      (bytesOfWord (tableISet (tableWord nbits w)) (tableWord nbits w)) = .ok (i, rest) := by
  unfold decodeTableWord at h
  split at h
  · next j rest hdec =>
    cases h
    exact ⟨rest, hdec⟩
  · cases h

/-- A word is placed in AArch32 state, at an aligned pc, and its own bytes are fetched there. -/
theorem State.fetch_withFetchWord (s : State) {nbits w : Nat} {i : Instr}
    (h : decodeTableWord nbits w = some i) : (s.withFetchWord nbits w).fetch = .instr i := by
  obtain ⟨rest, hdec⟩ := decodeTableWord_eq_some h
  refine State.fetch_of_decode rfl (pcAligned_placePc _ s.pc) (rest := rest) ?_
  rw [State.withFetchWord, State.fetchBytes_placeWord]
  exact hdec

/-! ### Runs of any length -/

/-- What every step keeps, a run keeps. -/
theorem Reaches.preserves {P : State → Prop} (hstep : ∀ s u, step s = .next u → P s → P u) {k : Nat}
    {s u : State} (h : Reaches k s u) (hs : P s) : P u := by
  induction k generalizing s with
  | zero =>
    cases h
    exact hs
  | succ k ih =>
    obtain ⟨r, hr, hrest⟩ := h
    exact ih hrest (hstep s r hr hs)

theorem Reaches.cfg_eq {k : Nat} {s u : State} (h : Reaches k s u) : u.cfg = s.cfg :=
  h.preserves (P := (·.cfg = s.cfg)) (fun _ _ hstep => (step_keeps hstep).cfg.trans) rfl

theorem Reaches.mem_eq {k : Nat} {s u : State} (h : Reaches k s u) : u.mem = s.mem :=
  h.preserves (P := (·.mem = s.mem)) (fun _ _ hstep => (step_keeps hstep).mem.trans) rfl

/-- A successful read gives the register itself where it is present. -/
theorem State.eq_idIsar5_of_readResult {s : State} {v : Word} (hp : s.cfg.raw.aarch32AnyEl = true)
    (h : s.readResult = .value v) : v = s.idIsar5 :=
  (State.eq_valueRead_of_readResult h).trans (State.valueRead_of_present hp)

/-! ### The obligations -/

/-- Settles O36: both reads give the register, which is the configuration's, and a run keeps the
configuration and memory. -/
theorem readsAgreeAtAnyDistance : Obligations.ReadsAgreeAtAnyDistance := by
  intro k s u hp hrun
  have hcfg : u.cfg = s.cfg := hrun.cfg_eq
  refine ⟨fun v v' hv hv' => ?_, hrun.mem_eq⟩
  calc v = s.idIsar5 := State.eq_idIsar5_of_readResult hp hv
    _ = u.idIsar5 := (State.idIsar5_congr hcfg).symm
    _ = v' := (State.eq_idIsar5_of_readResult (hcfg ▸ hp) hv').symm

/-- Settles O10: the placed word is what the next step fetches. -/
theorem placedWordRunsNext : Obligations.PlacedWordRunsNext :=
  fun s _ _ _ hdec hwf => step_of_fetch_instr (s.fetch_withFetchWord hdec) hwf

/-- Settles O9: bytes that decode are fetched as their instruction. -/
theorem stepRunsDecodedInstr : Obligations.StepRunsDecodedInstr :=
  fun _ _ _ hex halign hdec hwf => step_of_fetch_instr (State.fetch_of_decode hex halign hdec) hwf

/-- Settles O12: the fetch is stuck before memory is looked at. -/
theorem misalignedPcFaults : Obligations.MisalignedPcFaults :=
  fun s hex hmis =>
    step_of_fetch_stuck (State.fetch_of_misaligned hex ((pcAligned_eq_false_iff _ s.pc).mpr hmis))

end Sys2Proof.Machine
end

section
/-! The encoding of the one instruction (R53 to R57, R60, R61): the decoder and the encoder as words, the
bytes of a word, and the step that fetches a word outside the spec. -/

namespace Sys2Proof

/-! ### Conditions and their numbers -/

theorem Cond.ofBits_eq_some_iff (b : BitVec 4) (c : Cond) :
    Cond.ofBits b = some c ↔ c.bits = b := by
  revert b
  cases c <;> decide

theorem Cond.bits_ne_15 (c : Cond) : c.bits ≠ 15#4 := by
  cases c <;> decide

/-! ### What the word decoder accepts (R56) -/

theorem decodeWord_a32_eq_some_iff (w : Word) (i : Instr) :
    decodeWord .a32 w = some i ↔
      w &&& 0x0FFF0FFF#32 = 0x0E100FB2#32 ∧
        ∃ c : Cond, c.bits = condField w ∧ i = .mrcA1 c (rtField w) := by
  by_cases hw : w &&& 0x0FFF0FFF#32 = 0x0E100FB2#32
  · simp [decodeWord, hw, Cond.ofBits_eq_some_iff, eq_comm (a := i)]
  · simp [decodeWord, hw]

theorem decodeWord_t32_eq_some_iff (w : Word) (i : Instr) :
    decodeWord .t32 w = some i ↔
      w &&& 0xFFFF0FFF#32 = 0xEE100FB2#32 ∧ i = .mrcT1 (rtField w) := by
  by_cases hw : w &&& 0xFFFF0FFF#32 = 0xEE100FB2#32
  · simp [decodeWord, hw, eq_comm]
  · simp [decodeWord, hw]

theorem decodeWord_a32_eq_none {w : Word} (hw : w &&& 0x0FFF0FFF#32 ≠ 0x0E100FB2#32) :
    decodeWord .a32 w = none := by
  simp [decodeWord, hw]

theorem decodeWord_t32_eq_none {w : Word} (hw : w &&& 0xFFFF0FFF#32 ≠ 0xEE100FB2#32) :
    decodeWord .t32 w = none := by
  simp [decodeWord, hw]

/-! ### A word is its operand nibbles and what the mask keeps

The nibbles stand where the register has its fields VCMA (`[31:28]`) and SHA2 (`[15:12]`), so the laws of
those fields are the laws of the operands. -/

theorem and_condMask (w : Word) : w &&& 0xF0000000#32 = (condField w).setWidth 32 <<< 28 :=
  Field.vcma.and_mask w

theorem and_rtMask (w : Word) : w &&& 0x0000F000#32 = (rtField w).setWidth 32 <<< 12 :=
  Field.sha2.and_mask w

theorem condField_or (v w : Word) : condField (v ||| w) = condField v ||| condField w :=
  BitVec.extractLsb'_or

theorem rtField_or (v w : Word) : rtField (v ||| w) = rtField v ||| rtField w :=
  BitVec.extractLsb'_or

@[simp] theorem condField_condPlace (b : BitVec 4) : condField (b.setWidth 32 <<< 28) = b :=
  Field.vcma.of_shiftLeft b

@[simp] theorem rtField_rtPlace (t : BitVec 4) : rtField (t.setWidth 32 <<< 12) = t :=
  Field.sha2.of_shiftLeft t

@[simp] theorem condField_rtPlace (t : BitVec 4) : condField (t.setWidth 32 <<< 12) = 0#4 := by
  revert t; decide

@[simp] theorem rtField_condPlace (b : BitVec 4) : rtField (b.setWidth 32 <<< 28) = 0#4 := by
  revert b; decide

theorem condPlace_and_a32Mask (b : BitVec 4) :
    b.setWidth 32 <<< 28 &&& 0x0FFF0FFF#32 = 0#32 := by
  revert b; decide

theorem rtPlace_and_a32Mask (t : BitVec 4) : t.setWidth 32 <<< 12 &&& 0x0FFF0FFF#32 = 0#32 := by
  revert t; decide

theorem rtPlace_and_t32Mask (t : BitVec 4) : t.setWidth 32 <<< 12 &&& 0xFFFF0FFF#32 = 0#32 := by
  revert t; decide

/-- The A32 mask leaves free exactly the condition and Rt (R57). -/
theorem eq_fields_a32 (w : Word) :
    w = ((condField w).setWidth 32 <<< 28) ||| (w &&& 0x0FFF0FFF#32) |||
      ((rtField w).setWidth 32 <<< 12) := by
  rw [← and_condMask, ← and_rtMask, ← BitVec.and_or_distrib_left, ← BitVec.and_or_distrib_left]
  exact BitVec.and_allOnes.symm

/-- The T32 mask leaves free exactly Rt (R57). -/
theorem eq_fields_t32 (w : Word) :
    w = (w &&& 0xFFFF0FFF#32) ||| ((rtField w).setWidth 32 <<< 12) := by
  rw [← and_rtMask, ← BitVec.and_or_distrib_left]
  exact BitVec.and_allOnes.symm

/-! ### The encoder, by the fields of its words (R57) -/

theorem condField_encode_mrcA1 (c : Cond) (t : BitVec 4) :
    condField (encode (.mrcA1 c t)) = c.bits := by
  rw [encode, condField_or, condField_or, condField_condPlace, condField_rtPlace,
    show condField 0x0E100FB2#32 = 0#4 from rfl, BitVec.or_zero, BitVec.or_zero]

theorem rtField_encode (i : Instr) : rtField (encode i) = i.rt := by
  cases i with
  | mrcA1 c t =>
    rw [encode, rtField_or, rtField_or, rtField_condPlace, rtField_rtPlace]
    exact BitVec.zero_or
  | mrcT1 t =>
    rw [encode, rtField_or, rtField_rtPlace]
    exact BitVec.zero_or

theorem encode_mrcA1_and_mask (c : Cond) (t : BitVec 4) :
    encode (.mrcA1 c t) &&& 0x0FFF0FFF#32 = 0x0E100FB2#32 := by
  rw [encode, BitVec.and_or_distrib_right, BitVec.and_or_distrib_right, condPlace_and_a32Mask,
    rtPlace_and_a32Mask]
  rfl

theorem encode_mrcT1_and_mask (t : BitVec 4) :
    encode (.mrcT1 t) &&& 0xFFFF0FFF#32 = 0xEE100FB2#32 := by
  rw [encode, BitVec.and_or_distrib_right, rtPlace_and_t32Mask]
  rfl

theorem decodeWord_encode (i : Instr) : decodeWord i.iset (encode i) = some i := by
  cases i with
  | mrcA1 c t =>
    exact (decodeWord_a32_eq_some_iff _ _).mpr ⟨encode_mrcA1_and_mask c t, c,
      (condField_encode_mrcA1 c t).symm, congrArg (Instr.mrcA1 c) (rtField_encode (.mrcA1 c t)).symm⟩
  | mrcT1 t =>
    exact (decodeWord_t32_eq_some_iff _ _).mpr ⟨encode_mrcT1_and_mask t,
      congrArg Instr.mrcT1 (rtField_encode (.mrcT1 t)).symm⟩

theorem encode_of_decodeWord {iset : ISet} {w : Word} {i : Instr} (h : decodeWord iset w = some i) :
    encode i = w ∧ i.iset = iset := by
  cases iset with
  | a32 =>
    obtain ⟨hmask, c, hc, rfl⟩ := (decodeWord_a32_eq_some_iff w i).mp h
    exact ⟨by rw [encode, hc, ← hmask, ← eq_fields_a32], rfl⟩
  | t32 =>
    obtain ⟨hmask, rfl⟩ := (decodeWord_t32_eq_some_iff w i).mp h
    exact ⟨by rw [encode, ← hmask, ← eq_fields_t32], rfl⟩

/-! ### The bytes of a word (R43, R53) -/

theorem halfOfBytes_bytesOfHalf (h : BitVec 16) :
    halfOfBytes (h.extractLsb' 0 8) (h.extractLsb' 8 8) = h :=
  BitVec.extractLsb'_append_extractLsb'

/-- A T32 word that the decoder accepts begins with a halfword that starts a 32-bit instruction. -/
theorem isWideT32_of_decodeWord {w : Word} {i : Instr} (h : decodeWord .t32 w = some i) :
    isWideT32 (w.extractLsb' 16 16) = true := by
  obtain ⟨rfl, hiset⟩ := encode_of_decodeWord h
  cases i with
  | mrcA1 c t => cases hiset
  | mrcT1 t => revert t; decide

/-- Decoding the bytes of a word decodes the word and leaves the rest over. -/
theorem decode_bytesOfWord (iset : ISet) (w : Word) (rest : List Byte) :
    decode iset (bytesOfWord iset w ++ rest) =
      (decodeWord iset w).elim (.error .notThisSpec) fun i => .ok (i, rest) := by
  have hword : w.extractLsb' 16 16 ++ w.extractLsb' 0 16 = w :=
    BitVec.extractLsb'_append_extractLsb'
  cases iset with
  | a32 =>
    simp only [bytesOfWord, bytesOfHalf, List.cons_append, List.nil_append, decode, wordOfBytes,
      halfOfBytes_bytesOfHalf, hword]
    cases decodeWord .a32 w <;> rfl
  | t32 =>
    simp only [bytesOfWord, bytesOfHalf, List.cons_append, List.nil_append, decode,
      halfOfBytes_bytesOfHalf, hword]
    cases hw : decodeWord .t32 w with
    | some i => rw [isWideT32_of_decodeWord hw]; rfl
    | none => exact ite_self _

theorem decode_bytesOfWord_of_none {iset : ISet} {w : Word} (h : decodeWord iset w = none) :
    decode iset (bytesOfWord iset w) = .error .notThisSpec := by
  have hdec := decode_bytesOfWord iset w []
  rwa [List.append_nil, h] at hdec

theorem Instr.wellFormed_eq_false_iff (i : Instr) : i.wellFormed = false ↔ i.rt = 15#4 :=
  bne_eq_false_iff_eq

end Sys2Proof

namespace Sys2Proof.Machine

/-! ### The obligations -/

/-- Settles O4: the masks leave free exactly the operand nibbles, which the decoder reads and the
encoder puts back. -/
theorem encodeDecodeAgree : Obligations.EncodeDecodeAgree :=
  ⟨fun _ _ => rfl, fun _ => rfl, decodeWord_encode, fun _ _ _ => encode_of_decodeWord⟩

/-- Settles O3: a condition's number is never 0b1111, so the A32 guard is that the condition exists. -/
theorem decoderAcceptsExactly : Obligations.DecoderAcceptsExactly := by
  refine fun w i => ⟨?_, decodeWord_t32_eq_some_iff w i, fun _ => decode_bytesOfWord_of_none,
    i.wellFormed_eq_false_iff⟩
  constructor
  · intro h
    obtain ⟨hmask, c, hc, hi⟩ := (decodeWord_a32_eq_some_iff w i).mp h
    exact ⟨fun h15 => c.bits_ne_15 (hc.trans h15), hmask, c, hc, hi⟩
  · rintro ⟨-, h⟩
    exact (decodeWord_a32_eq_some_iff w i).mpr h

/-- Settles O5: the bytes are those of the encoded word, which decodes to the instruction. -/
theorem bytesRoundTrip : Obligations.BytesRoundTrip := by
  intro i rest
  rw [encodeBytes, decode_bytesOfWord, decodeWord_encode]
  rfl

/-- Settles O6: the write form has bit 20 clear under the mask, where R56 has it set. -/
theorem writeFormNotDecoded : Obligations.WriteFormNotDecoded := by
  intro w
  constructor
  · intro hw
    have hnone : decodeWord .a32 w = none := decodeWord_a32_eq_none (hw ▸ by decide)
    exact ⟨hnone, decode_bytesOfWord_of_none hnone⟩
  · intro hw
    have hnone : decodeWord .t32 w = none := decodeWord_t32_eq_none (hw ▸ by decide)
    exact ⟨hnone, decode_bytesOfWord_of_none hnone⟩

theorem State.fetch_of_notThisSpec {s : State} (hex : s.pstate.exState = .aarch32)
    (halign : pcAligned s.pstate.iset s.pc = true)
    (hdec : decode s.pstate.iset s.fetchBytes = .error .notThisSpec) :
    s.fetch = .outside .notThisSpec := by
  simp [State.fetch, hex, halign, hdec]

/-- Settles O7: the fetched bytes are `NotThisSpec`, so the step meets nothing of the spec. -/
theorem otherWordsRefused : Obligations.OtherWordsRefused := by
  intro s w hex halign hbytes hnone
  refine step_of_fetch_outside (State.fetch_of_notThisSpec hex halign ?_)
  rw [hbytes]
  exact decode_bytesOfWord_of_none hnone

/-- Settles O1: each word is evaluated by the decoder. -/
theorem specWordsDecode : Obligations.SpecWordsDecode := by
  unfold Obligations.SpecWordsDecode
  decide

/-- Settles O27: `exec` depends on the instruction by its Rt field alone. -/
theorem encodingsAgree : Obligations.EncodingsAgree :=
  fun s c d rt =>
    ⟨(exec_eq (.mrcA1 c rt) s).trans (exec_eq (.mrcT1 rt) s).symm,
      (exec_eq (.mrcA1 c rt) s).trans (exec_eq (.mrcA1 d rt) s).symm⟩

end Sys2Proof.Machine
end

section
/-! The read of the register (R71 to R78): the access check, the outcome, and what an execution does for
each outcome. -/

namespace Sys2Proof.Machine

/-! ### The access check (R72) -/

theorem Ctx.trapsToA64_iff (c : Ctx) :
    c.trapsToA64 = true ↔ c.el = .el1 ∧ c.el2Enabled = true ∧ c.el2UsingAArch32 = false ∧
      (c.hstrEl2T0 = true ∨ c.hcrEl2Tid3 = true) := by
  simp [Ctx.trapsToA64, and_assoc]

theorem Ctx.trapsToHyp_iff (c : Ctx) :
    c.trapsToHyp = true ↔ c.el = .el1 ∧ c.el2Enabled = true ∧ c.el2UsingAArch32 = true ∧
      (c.hstrT0 = true ∨ c.hcrTid3 = true) := by
  simp [Ctx.trapsToHyp, and_assoc]

/-- Settles O14: the source's order by the level, and the normal form by the two traps. -/
theorem accessCheck : Obligations.AccessCheck := by
  intro v c
  constructor
  · cases h : c.el with
    | el0 => simp [access, h]
    | el1 => simp [access, h, and_assoc]
    | el2 => simp [access, h]
    | el3 => simp [access, h]
  · simp only [access_eq, c.trapsToA64_iff, c.trapsToHyp_iff]

/-- Settles O16: outside EL1, and at EL1 without EL2, nothing more is looked at; else only the two bits of
EL2's state are. -/
theorem unconsultedControlsIrrelevant : Obligations.UnconsultedControlsIrrelevant := by
  intro v c d hel h
  simp only [access_eq, Ctx.trapsToA64_iff, Ctx.trapsToHyp_iff, ← hel]
  by_cases h1 : c.el = .el1
  · obtain ⟨hen, hrest⟩ := h h1
    rw [← hen]
    cases he : c.el2Enabled with
    | false => simp
    | true =>
      obtain ⟨ha32, hhyp, ha64⟩ := hrest he
      rw [← ha32]
      cases ha : c.el2UsingAArch32 with
      | false => simp [ha64 ha]
      | true => simp [hhyp ha]
  · simp [h1]

/-! ### The outcome (R73) -/

theorem State.readResult_of_condPassed {s : State} (hc : s.condPassed = true) :
    s.readResult = access s.valueRead s.ctx := by
  simp [State.readResult, hc]

theorem State.readResult_of_condFailed_value {s : State} {v : Word} (hc : s.condPassed = false)
    (ha : access s.valueRead s.ctx = .value v) : s.readResult = .nop := by
  simp [State.readResult, hc, ha]

theorem State.readResult_of_condFailed_raised {s : State} {e : Exc} (hc : s.condPassed = false)
    (ha : access s.valueRead s.ctx = .raised e) :
    s.readResult = if Config.failedCondRaises s.ctx then .raised e else .nop := by
  simp [State.readResult, hc, ha]

/-- `Nop` arises only from a failed condition, since the access check never gives it. -/
theorem State.condPassed_of_readResult_nop {s : State} (h : s.readResult = .nop) :
    s.condPassed = false := by
  obtain hr | ⟨hc, -⟩ := s.readResult_cases
  · obtain ha | ⟨ha, -⟩ | ⟨ha, -⟩ | ⟨ha, -⟩ := access_cases s.valueRead s.ctx <;>
      rw [h, ha] at hr <;> cases hr
  · exact hc

/-- The exceptions of R83, and the level each is raised from. -/
theorem State.readResult_raised_cases {s : State} {e : Exc} (h : s.readResult = .raised e) :
    e = .undefined ∧ s.pstate.el = .el0 ∨ e = .hypTrap 0x03#8 ∧ s.pstate.el = .el1 ∨
    e = .a64SystemAccessTrap .el2 0x03#8 ∧ s.pstate.el = .el1 := by
  obtain hr | ⟨-, hr⟩ := s.readResult_cases
  · obtain ha | ⟨ha, hel⟩ | ⟨ha, hel⟩ | ⟨ha, hel⟩ := access_cases s.valueRead s.ctx <;>
      rw [h, ha] at hr <;> cases hr
    · exact .inl ⟨rfl, hel⟩
    · exact .inr (.inl ⟨rfl, hel⟩)
    · exact .inr (.inr ⟨rfl, hel⟩)
  · rw [h] at hr
    cases hr

/-! ### The read, by its outcome (R71, R78) -/

/-- Both encodings are the one read. -/
theorem exec_rtOf (s : State) (c : Cond) (t : Fin 15) :
    exec (.mrcA1 c (rtOf t)) s = .next (s.readInto t) ∧
      exec (.mrcT1 (rtOf t)) s = .next (s.readInto t) :=
  ⟨exec_of_rt rfl s, exec_of_rt rfl s⟩

theorem State.readInto_of_value {s : State} {v : Word} (t : Fin 15) (h : s.readResult = .value v) :
    s.readInto t =
      { s with
        gpr := s.gpr.set (s.regIndex t) v
        pc := s.pc + 4#32
        lastResult := some (.value v)
        draws := s.draws + 1 } := by
  rw [State.readInto, h]
  rfl

theorem State.readInto_of_nop {s : State} (t : Fin 15) (h : s.readResult = .nop) :
    s.readInto t =
      { s with pc := s.pc + 4#32, lastResult := some .nop, draws := s.draws + 1 } := by
  rw [State.readInto, h]
  rfl

theorem State.readInto_of_raised {s : State} {e : Exc} (t : Fin 15) (h : s.readResult = .raised e) :
    s.readInto t = (s.takeException e t).noteResult (.raised e) := by
  rw [State.readInto, h]
  rfl

/-- The outcome noted is the read's own. -/
theorem State.readResult_of_lastResult {s : State} {t : Fin 15} {r : Result}
    (h : (s.readInto t).lastResult = some r) : s.readResult = r :=
  Option.some.inj h

/-- At EL0 the mode is User, whose copies are none of Undefined mode's. -/
theorem State.regIndex_ne_of_el0 {s : State} (h : s.pstate.el = .el0) (t : Fin 15) :
    s.regIndex t ≠ physIndex .undefined 14 := by
  have hmode : s.pstate.currentMode = .user := by simp [PState.currentMode, h]
  rw [State.regIndex, hmode]
  revert t
  decide

/-- R78, R86: an exception keeps `x[t]`. An `Undefined` comes from EL0 alone, so the LR it may write is
not the destination. -/
theorem State.readInto_gpr_get_of_raised {s : State} {e : Exc} (t : Fin 15)
    (h : s.readResult = .raised e) :
    (s.readInto t).gpr.get (s.regIndex t) = s.gpr.get (s.regIndex t) := by
  rw [State.readInto_of_raised t h, State.noteResult_gpr]
  refine s.takeException_gpr_get t fun he => ?_
  subst he
  obtain ⟨-, hel⟩ | ⟨he, -⟩ | ⟨he, -⟩ := State.readResult_raised_cases h
  · exact State.regIndex_ne_of_el0 hel t
  · cases he
  · cases he

/-! ### The four entries of an `Undefined` (R80) -/

section
variable {s : State} (t : Fin 15)

theorem State.takeException_undefined_tge_aarch32 (hr : s.tgeRoutes = true)
    (h : s.el2.usingAArch32 = true) :
    s.takeException .undefined t =
      s.enterHyp (Config.undefinedHsr s.draws) (Config.undefinedHypPc s.draws) := by
  simp [State.takeException, hr, h]

theorem State.takeException_undefined_tge_aarch64 (hr : s.tgeRoutes = true)
    (h : s.el2.usingAArch32 = false) :
    s.takeException .undefined t =
      s.enterEl2A64 .el2 (Config.undefinedEsrEl2 s.draws) (Config.undefinedPc64 s.draws) := by
  simp [State.takeException, hr, h]

theorem State.takeException_undefined_el1_aarch32 (hr : s.tgeRoutes = false)
    (h : s.el1UsingAArch32 = true) : s.takeException .undefined t = s.enterUndefinedMode := by
  simp [State.takeException, hr, h]

theorem State.takeException_undefined_el1_aarch64 (hr : s.tgeRoutes = false)
    (h : s.el1UsingAArch32 = false) : s.takeException .undefined t = s.enterEl1A64 := by
  simp [State.takeException, hr, h]

end

/-! ### The obligations -/

/-- Settles O8: the write form is one of the words that the decoder does not accept. -/
theorem writeFormRefused : Obligations.WriteFormRefused := by
  intro s w hex halign hbytes hform
  refine otherWordsRefused s w hex halign hbytes ?_
  obtain ⟨ha32, ht32⟩ := writeFormNotDecoded w
  obtain ⟨hiset, hw⟩ | ⟨hiset, hw⟩ := hform
  · rw [hiset]
    exact (ha32 hw).1
  · rw [hiset]
    exact (ht32 hw).1

/-- Settles O17: the outcome is the value read, whose effect this is. -/
theorem allowedReadCompletes : Obligations.AllowedReadCompletes := by
  intro s c t hc ha
  rw [← State.readInto_of_value t (State.readResult_of_readAllowed hc ha)]
  exact exec_rtOf s c t

/-- Settles O19: the value read is this draw, and the read counts one. -/
theorem absentRegisterGivesDraw : Obligations.AbsentRegisterGivesDraw := by
  intro s c t hc ha habsent
  obtain ⟨hA1, hT1⟩ := exec_rtOf s c t
  refine ⟨s.readInto t, hA1, hT1, ?_, ?_⟩
  · rw [State.readReg_readInto_of_value (State.readResult_of_readAllowed hc ha),
      State.valueRead_of_absent habsent]
  · have habsent' : (s.readInto t).cfg.raw.aarch32AnyEl = false := by
      rw [(s.readInto_keeps t).cfg, habsent]
    rw [State.valueRead_of_absent habsent', s.readInto_draws]

/-- Settles O20: the outcome by the condition and the access; `exec` notes it, and `Nop` writes no
register. -/
theorem failedConditionAdmitsBoth : Obligations.FailedConditionAdmitsBoth := by
  intro s
  refine ⟨State.readResult_of_condPassed, fun hc _ => State.readResult_of_condFailed_value hc,
    fun hc _ => State.readResult_of_condFailed_raised hc, fun c t => ?_⟩
  obtain ⟨hA1, hT1⟩ := exec_rtOf s c t
  exact ⟨s.readInto t, hA1, hT1, rfl, fun h => by rw [State.readInto_of_nop t h]⟩

/-- Settles O21: the access is a value, so the outcome of the failed condition is `Nop`. -/
theorem failedConditionIsNop : Obligations.FailedConditionIsNop := by
  intro s c t hc ha
  have hnop := State.readResult_of_condFailed_value hc (access_of_readAllowed s.valueRead ha)
  rw [← State.readInto_of_nop t hnop]
  exact exec_rtOf s c t

/-- Settles O22: Rt names no register, or the execution is a read, taken by its outcome. -/
theorem outcomeEffects : Obligations.OutcomeEffects := by
  intro i s
  cases ht : destOf i.rt with
  | none => exact .inl ⟨(destOf_eq_none_iff i.rt).mp ht, by rw [exec_eq, ht]⟩
  | some t =>
    have hrt := rtOf_of_destOf ht
    refine .inr ⟨t, s.readInto t, hrt, exec_of_rt hrt s, ?_⟩
    cases hr : s.readResult with
    | value v =>
      refine .inl ⟨v, congrArg some hr, ?_⟩
      rw [State.readInto_of_value t hr]
    | nop =>
      refine .inr (.inl ⟨congrArg some hr, State.condPassed_of_readResult_nop hr, ?_⟩)
      rw [State.readInto_of_nop t hr]
    | raised e =>
      refine .inr (.inr ⟨e, congrArg some hr, ?_, State.readInto_gpr_get_of_raised t hr⟩)
      exact (State.readResult_raised_cases hr).imp And.left (Or.imp And.left And.left)

/-- Settles O24: a value is written to the mode's copy; 0b1111 encodes and decodes, and names no
register. -/
theorem destinationCorners : Obligations.DestinationCorners := by
  refine ⟨fun s c t v h => ?_, fun s c => ⟨exec_eq _ s, exec_eq _ s⟩,
    fun c => ⟨decodeWord_encode (.mrcA1 c 15#4), (Instr.wellFormed_eq_false_iff _).mpr rfl⟩,
    decodeWord_encode (.mrcT1 15#4), (Instr.wellFormed_eq_false_iff _).mpr rfl⟩
  obtain ⟨hA1, hT1⟩ := exec_rtOf s c t
  exact ⟨s.readInto t, hA1, hT1, State.readReg_readInto_of_value h,
    by rw [State.readInto_of_value t h]⟩

/-- Settles O26: each outcome changes what its effect or its entry names, an `Undefined` by its route. -/
theorem exceptionRegistersFrame : Obligations.ExceptionRegistersFrame := by
  intro i s u hx
  obtain ⟨t, -, rfl⟩ := exec_next hx
  refine ⟨fun hnone => ?_, fun ec h => ?_, fun level ec h => ?_, fun h => ?_⟩
  · cases hr : s.readResult with
    | value v =>
      rw [State.readInto_of_value t hr]
      exact ⟨rfl, rfl, rfl, rfl, rfl, rfl, rfl⟩
    | nop =>
      rw [State.readInto_of_nop t hr]
      exact ⟨rfl, rfl, rfl, rfl, rfl, rfl, rfl⟩
    | raised e => exact absurd (congrArg some hr) (hnone e)
  · rw [State.readInto_of_raised t (State.readResult_of_lastResult h)]
    exact ⟨rfl, rfl, rfl, rfl⟩
  · rw [State.readInto_of_raised t (State.readResult_of_lastResult h)]
    exact ⟨rfl, rfl, rfl, rfl, rfl, rfl⟩
  · rw [State.readInto_of_raised t (State.readResult_of_lastResult h)]
    refine ⟨fun hr h2 => ?_, fun hr h2 => ?_, fun hr h1 => ?_, fun hr h1 => ?_⟩
    · rw [State.takeException_undefined_tge_aarch32 t hr h2]
      exact ⟨rfl, rfl, rfl, rfl⟩
    · rw [State.takeException_undefined_tge_aarch64 t hr h2]
      exact ⟨rfl, rfl, rfl, rfl, rfl, rfl⟩
    · rw [State.takeException_undefined_el1_aarch32 t hr h1]
      exact ⟨rfl, rfl, rfl, rfl⟩
    · rw [State.takeException_undefined_el1_aarch64 t hr h1]
      exact ⟨rfl, rfl, rfl, rfl, rfl, rfl⟩

/-! ### Two reads in one context (R76) -/

/-- A read that gives a value leaves the context and the mode as they were. -/
theorem State.readInto_ctx_of_value {s : State} {v : Word} (t : Fin 15)
    (h : s.readResult = .value v) : (s.readInto t).ctx = s.ctx := by
  rw [State.readInto_of_value t h]
  rfl

theorem State.readInto_regIndex_of_value {s : State} {v : Word} (t t' : Fin 15)
    (h : s.readResult = .value v) : (s.readInto t).regIndex t' = s.regIndex t' := by
  rw [State.readInto_of_value t h]
  rfl

theorem State.readInto_gpr_of_value {s : State} {v : Word} (t : Fin 15)
    (h : s.readResult = .value v) : (s.readInto t).gpr = s.gpr.set (s.regIndex t) v := by
  rw [State.readInto_of_value t h]

/-- Writing a value to any copy keeps the copies that hold it already. -/
theorem gpr_get_set_of_get_eq {g : Vector Word 33} {j : Fin 33} {v : Word} (i : Fin 33)
    (h : g.get j = v) : (g.set i v).get j = v := by
  obtain rfl | hne := eq_or_ne i j
  · exact gpr_get_set_same g i v
  · exact (gpr_get_set_other g v hne).trans h

/-- A value read into one register and then into another stands in the first one still. -/
theorem State.readReg_readInto_readInto {s : State} {v : Word} {t t' : Fin 15}
    (h : s.readResult = .value v) (h' : (s.readInto t).readResult = .value v) :
    ((s.readInto t).readInto t').readReg t = v := by
  rw [State.readReg, State.readInto_regIndex_of_value t' t h', State.readInto_gpr_of_value t' h']
  exact gpr_get_set_of_get_eq _ (State.readReg_readInto_of_value h)

/-- Settles O35: one context gives one outcome, and a read that gives a value keeps the context. -/
theorem repeatedReadsAgree : Obligations.RepeatedReadsAgree := by
  constructor
  · intro s s' c d t t' hp hcfg hctx
    obtain ⟨hA1, hT1⟩ := exec_rtOf s c t
    obtain ⟨hA1', hT1'⟩ := exec_rtOf s' d t'
    exact ⟨s.readInto t, s'.readInto t', hA1, hT1, hA1', hT1', rfl,
      congrArg some (State.readResult_congr hp hcfg hctx)⟩
  · intro s c d t t' hc ha hp
    have hr := State.readResult_of_readAllowed hc ha
    have hsame : (s.readInto t).readResult = s.readResult :=
      State.readResult_congr hp (s.readInto_keeps t).cfg (State.readInto_ctx_of_value t hr)
    have hr' := hsame.trans hr
    have hfirst := State.readReg_readInto_readInto (t' := t') hr hr'
    obtain ⟨hA1, hT1⟩ := exec_rtOf s c t
    obtain ⟨hA1', hT1'⟩ := exec_rtOf (s.readInto t) d t'
    refine ⟨s.readInto t, (s.readInto t).readInto t', hA1, hA1', hT1, hT1',
      congrArg some hsame.symm, ?_, ?_, ?_⟩
    · exact hfirst.trans (State.readReg_readInto_of_value hr').symm
    · exact hfirst.trans (State.readReg_readInto_of_value hr).symm
    · rintro rfl
      simp only [State.readInto_gpr_of_value t hr', State.readInto_regIndex_of_value t t hr,
        State.readInto_gpr_of_value t hr, Vector.set_set]

end Sys2Proof.Machine
end

section
/-! The exceptions (R80 to R90): which of them the access check raises, how each is taken, and the level a
step ends at. -/

namespace Sys2Proof.Machine

/-! ### Who intercepts whom (R87) -/

theorem access_eq_undefined_iff (v : Word) (c : Ctx) :
    access v c = .raised .undefined ↔ c.el = .el0 := by
  rw [access_eq]
  split_ifs <;> simp [*]

theorem access_eq_a64Trap_iff (v : Word) (c : Ctx) :
    access v c = .raised (.a64SystemAccessTrap .el2 0x03#8) ↔ c.trapsToA64 = true := by
  rw [access_eq]
  split_ifs with h0 ha64 hhyp
  · simp [c.trapsToA64_iff, h0]
  · simp [ha64]
  · simp [ha64]
  · simp [ha64]

/-- The trap to Hyp mode is looked at after the other one, which EL2's own state excludes. -/
theorem access_eq_hypTrap_iff (v : Word) (c : Ctx) :
    access v c = .raised (.hypTrap 0x03#8) ↔ c.trapsToHyp = true := by
  rw [access_eq]
  split_ifs with h0 ha64 hhyp
  · simp [c.trapsToHyp_iff, h0]
  · obtain ⟨-, -, ha32, -⟩ := c.trapsToA64_iff.mp ha64
    simp [c.trapsToHyp_iff, ha32]
  · simp [hhyp]
  · simp [hhyp]

theorem access_of_el2_or_el3 (v : Word) {c : Ctx} (h : c.el = .el2 ∨ c.el = .el3) :
    access v c = .value v := by
  obtain h | h := h <;> simp [access, h]

/-- Settles O15: each exception by its condition, and the cases of the access check hold no other. -/
theorem whoInterceptsWhom : Obligations.WhoInterceptsWhom := by
  intro v c
  refine ⟨access_eq_undefined_iff v c, (access_eq_a64Trap_iff v c).trans c.trapsToA64_iff,
    (access_eq_hypTrap_iff v c).trans c.trapsToHyp_iff, access_of_el2_or_el3 v, fun e he => ?_⟩
  obtain h | ⟨h, -⟩ | ⟨h, -⟩ | ⟨h, -⟩ := access_cases v c <;> rw [he] at h <;> cases h
  · exact .inl rfl
  · exact .inr (.inr rfl)
  · exact .inr (.inl rfl)

/-! ### The outcome where the condition passed -/

theorem State.readResult_undefined_of_el0 {s : State} (hc : s.condPassed = true)
    (hel : s.pstate.el = .el0) : s.readResult = .raised .undefined := by
  rw [State.readResult_of_condPassed hc, access_eq_undefined_iff]
  exact hel

theorem State.readResult_hypTrap_of_traps {s : State} (hc : s.condPassed = true)
    (h : s.ctx.trapsToHyp = true) : s.readResult = .raised (.hypTrap 0x03#8) := by
  rwa [State.readResult_of_condPassed hc, access_eq_hypTrap_iff]

theorem State.readResult_a64Trap_of_traps {s : State} (hc : s.condPassed = true)
    (h : s.ctx.trapsToA64 = true) :
    s.readResult = .raised (.a64SystemAccessTrap .el2 0x03#8) := by
  rwa [State.readResult_of_condPassed hc, access_eq_a64Trap_iff]

/-! ### Precision (R86) -/

/-- Settles O23: an exception keeps the destination and the configuration, and a value's effect is the
write alone. -/
theorem exceptionsArePrecise : Obligations.ExceptionsArePrecise := by
  intro i s u t ht hx
  rw [exec_of_rt ht] at hx
  cases hx
  constructor
  · intro e h
    exact ⟨State.readInto_gpr_get_of_raised t (State.readResult_of_lastResult h),
      State.idIsar5_congr (s.readInto_keeps t).cfg⟩
  · intro v h
    rw [State.readInto_of_value t (State.readResult_of_lastResult h)]

/-! ### The syndrome of a trapped read (R81, R82) -/

/-- What a syndrome register reports of the trapped read: EC, IL, and the MRC's coordinates, with `rt5` in
bits [9:5]. CV and COND, which R81 leaves open, are not among them. -/
structure ReportsTrap (v : Word) (ec : BitVec 6) (rt5 : BitVec 5) : Prop where
  ec : v.extractLsb' 26 6 = ec
  il : v.extractLsb' 25 1 = 1#1
  opc2 : v.extractLsb' 17 3 = 5#3
  opc1 : v.extractLsb' 14 3 = 0#3
  crn : v.extractLsb' 10 4 = 0#4
  rt : v.extractLsb' 5 5 = rt5
  crm : v.extractLsb' 1 4 = 2#4
  direction : v.extractLsb' 0 1 = 1#1

/-- The syndrome is a sum, each field at its place. -/
theorem toNat_syndrome_trapIss (ec : Byte) (cvCond rt5 : BitVec 5) :
    (syndrome ec (trapIss cvCond rt5)).toNat =
      (ec.setWidth 6).toNat * 2 ^ 26 + 2 ^ 25 + cvCond.toNat * 2 ^ 20 + 5 * 2 ^ 17 +
        rt5.toNat * 2 ^ 5 + 2 * 2 ^ 1 + 1 := by
  simp only [syndrome, trapIss, toNat_append_eq_add, BitVec.toNat_ofNat]
  omega

theorem syndrome_reportsTrap (ec : Byte) (cvCond rt5 : BitVec 5) :
    ReportsTrap (syndrome ec (trapIss cvCond rt5)) (ec.setWidth 6) rt5 := by
  constructor <;> apply BitVec.eq_of_toNat_eq <;>
    simp only [BitVec.extractLsb'_toNat, Nat.shiftRight_eq_div_pow, toNat_syndrome_trapIss,
      BitVec.toNat_ofNat] <;> omega

/-- R81: where bits [9:5] hold a four-bit number, bit [9] is zero and bits [8:5] are the number. -/
theorem ReportsTrap.bit9_and_rt_of_four_bits {v : Word} {ec : BitVec 6} {rt : BitVec 4}
    (h : ReportsTrap v ec (rt.setWidth 5)) :
    v.extractLsb' 9 1 = 0#1 ∧ v.extractLsb' 5 4 = rt := by
  have hrt : v.toNat / 2 ^ 5 % 2 ^ 5 = rt.toNat := by
    rw [← Nat.shiftRight_eq_div_pow, ← BitVec.extractLsb'_toNat, h.rt,
      BitVec.toNat_setWidth_of_le (by decide)]
  constructor <;> apply BitVec.eq_of_toNat_eq <;>
    simp only [BitVec.extractLsb'_toNat, Nat.shiftRight_eq_div_pow, BitVec.toNat_ofNat] <;> omega

theorem State.trapHsr_reportsTrap (s : State) (ec : Byte) (t : Fin 15) :
    ReportsTrap (s.trapHsr ec t) (ec.setWidth 6) ((rtOf t).setWidth 5) :=
  syndrome_reportsTrap ec _ _

theorem State.trapEsrEl2_reportsTrap (s : State) (ec : Byte) (t : Fin 15) :
    ReportsTrap (s.trapEsrEl2 ec t) (ec.setWidth 6)
      (if (s.regIndex t).val < 15 then (rtOf t).setWidth 5
        else Config.syndromeBankedRt s.draws) :=
  syndrome_reportsTrap ec _ _

/-! ### Entry (R80 to R82) -/

/-- Both encodings complete by the entry that the exception is taken to. -/
theorem exec_of_raised {s u : State} {e : Exc} {t : Fin 15} (c : Cond)
    (h : s.readResult = .raised e) (hu : s.takeException e t = u) :
    exec (.mrcA1 c (rtOf t)) s = .next (u.noteResult (.raised e)) ∧
      exec (.mrcT1 (rtOf t)) s = .next (u.noteResult (.raised e)) := by
  rw [← hu, ← State.readInto_of_raised t h]
  exact exec_rtOf s c t

theorem State.tgeRoutes_of_hcr {s : State} (hen : s.el2.enabled = true)
    (h : s.el2.usingAArch32 = true) (htge : s.el2.hcrTge = true) : s.tgeRoutes = true := by
  simp [State.tgeRoutes, hen, h, htge]

theorem State.tgeRoutes_of_hcrEl2 {s : State} (hen : s.el2.enabled = true)
    (h : s.el2.usingAArch32 = false) (htge : s.el2.hcrEl2Tge = true) : s.tgeRoutes = true := by
  simp [State.tgeRoutes, hen, h, htge]

/-- Settles O29: the context traps to Hyp mode, and HSR is the syndrome with Rt in four bits. -/
theorem hypTrapTaken : Obligations.HypTrapTaken := by
  intro s c t
  constructor
  · intro hc hel hen ha32 hbits
    exact State.readResult_hypTrap_of_traps hc (s.ctx.trapsToHyp_iff.mpr ⟨hel, hen, ha32, hbits⟩)
  · intro h
    obtain ⟨hA1, hT1⟩ := exec_of_raised (t := t) c h rfl
    have hsr := s.trapHsr_reportsTrap 0x03#8 t
    obtain ⟨bit9, rt⟩ := hsr.bit9_and_rt_of_four_bits
    exact ⟨_, hA1, hT1, rfl, rfl, rfl, rfl, rfl, rfl, rfl, rfl, rfl, hsr.ec, hsr.il, hsr.opc2,
      hsr.opc1, hsr.crn, bit9, rt, hsr.crm, hsr.direction⟩

/-- Settles O30: the context traps to EL2 using AArch64, and ESR_EL2 is the syndrome with the copy's
number. -/
theorem a64TrapTaken : Obligations.A64TrapTaken := by
  intro s c t
  constructor
  · intro hc hel hen ha64 hbits
    exact State.readResult_a64Trap_of_traps hc (s.ctx.trapsToA64_iff.mpr ⟨hel, hen, ha64, hbits⟩)
  · intro h
    obtain ⟨hA1, hT1⟩ := exec_of_raised (t := t) c h rfl
    have esr := s.trapEsrEl2_reportsTrap 0x03#8 t
    exact ⟨_, hA1, hT1, rfl, rfl, rfl, rfl, rfl, rfl, rfl, rfl, esr.ec, esr.il, esr.opc2, esr.opc1,
      esr.crn, fun hunbanked => esr.rt.trans (if_pos hunbanked), esr.crm, esr.direction⟩

/-- Settles O31: the entry writes LR of Undefined mode, which is not the destination at EL0. -/
theorem undefinedTakenToUndefinedMode : Obligations.UndefinedTakenToUndefinedMode := by
  refine fun s c t => ⟨State.readResult_undefined_of_el0, fun h htge ha32 => ?_⟩
  have entry := State.takeException_undefined_el1_aarch32 t htge ha32
  obtain ⟨hA1, hT1⟩ := exec_of_raised c h entry
  have hget := State.readInto_gpr_get_of_raised t h
  rw [State.readInto_of_raised t h, entry] at hget
  exact ⟨_, hA1, hT1, rfl, hget, rfl, rfl, rfl, rfl, rfl, rfl, rfl, rfl, rfl⟩

/-- Settles O32: EC is what stands above the free bits of ESR_EL1. -/
theorem undefinedTakenToEl1A64 : Obligations.UndefinedTakenToEl1A64 := by
  refine fun s c t => ⟨State.readResult_undefined_of_el0, fun h htge ha64 => ?_⟩
  obtain ⟨hA1, hT1⟩ :=
    exec_of_raised c h (State.takeException_undefined_el1_aarch64 t htge ha64)
  exact ⟨_, hA1, hT1, rfl, rfl, rfl, rfl, BitVec.extractLsb'_append_eq_left, rfl, rfl, rfl, rfl⟩

/-- Settles O33: with EL2 enabled, the TGE bit of its own state routes, and the entry is that state's. -/
theorem undefinedRoutedByTge : Obligations.UndefinedRoutedByTge := by
  refine fun s c t => ⟨State.readResult_undefined_of_el0, fun h hen => ⟨?_, ?_⟩⟩
  · intro ha32 htge
    obtain ⟨hA1, hT1⟩ := exec_of_raised c h
      (State.takeException_undefined_tge_aarch32 t (State.tgeRoutes_of_hcr hen ha32 htge) ha32)
    exact ⟨_, hA1, hT1, rfl, rfl, rfl, rfl, rfl, rfl, rfl, rfl, rfl, rfl, rfl⟩
  · intro ha64 htge
    obtain ⟨hA1, hT1⟩ := exec_of_raised c h
      (State.takeException_undefined_tge_aarch64 t (State.tgeRoutes_of_hcrEl2 hen ha64 htge) ha64)
    exact ⟨_, hA1, hT1, rfl, rfl, rfl, rfl, rfl, rfl, rfl, rfl, rfl, rfl⟩

/-! ### The level (R83, R90) -/

/-- An `Undefined` goes to EL2 where TGE routes it, and to EL1 else. -/
theorem State.takeException_undefined_el (s : State) (t : Fin 15) :
    (s.takeException .undefined t).pstate.el = if s.tgeRoutes then .el2 else .el1 := by
  cases hr : s.tgeRoutes with
  | true =>
    cases h2 : s.el2.usingAArch32 with
    | true => rw [State.takeException_undefined_tge_aarch32 t hr h2]; rfl
    | false => rw [State.takeException_undefined_tge_aarch64 t hr h2]; rfl
  | false =>
    cases h1 : s.el1UsingAArch32 with
    | true => rw [State.takeException_undefined_el1_aarch32 t hr h1]; rfl
    | false => rw [State.takeException_undefined_el1_aarch64 t hr h1]; rfl

/-- An exception is raised at EL0 or EL1, and taken at a higher level, EL2 at most. -/
theorem State.readInto_el_of_raised {s : State} {e : Exc} (t : Fin 15)
    (h : s.readResult = .raised e) :
    s.pstate.el = .el0 ∧
        ((s.readInto t).pstate.el = .el1 ∨ (s.readInto t).pstate.el = .el2) ∨
      s.pstate.el = .el1 ∧ (s.readInto t).pstate.el = .el2 := by
  rw [State.readInto_of_raised t h, State.noteResult_pstate]
  obtain ⟨rfl, hel⟩ | ⟨rfl, hel⟩ | ⟨rfl, hel⟩ := State.readResult_raised_cases h
  · refine .inl ⟨hel, ?_⟩
    rw [s.takeException_undefined_el t]
    exact (ite_eq_or_eq _ _ _).symm
  · exact .inr ⟨hel, rfl⟩
  · exact .inr ⟨hel, rfl⟩

/-- Settles O34: with nothing queued the step is its read, which moves the level by an exception alone. -/
theorem levelRisesOnlyByException : Obligations.LevelRisesOnlyByException := by
  intro s u hq hstep
  obtain ⟨_, t, -, -, rfl⟩ := step_next hstep
  rw [State.supplyCtx_readInto_of_nil t hq, State.readInto_lastResult]
  cases hr : s.readResult with
  | value v => exact .inl ⟨by rw [State.readInto_of_value t hr], nofun⟩
  | nop => exact .inl ⟨by rw [State.readInto_of_nop t hr], nofun⟩
  | raised e => exact .inr ⟨⟨e, rfl⟩, State.readInto_el_of_raised t hr⟩

end Sys2Proof.Machine
end

section
/-! What must hold for a read to be sure to succeed, and the machine that reset leaves (R100, R102). -/

namespace Sys2Proof.Machine

/-! ### When the read is allowed (R102) -/

/-- At EL1 each trap needs EL2 enabled and a bit of the pair that goes with EL2's own state, so clearing
that pair is all that is required; at EL2 and EL3 neither trap applies. -/
theorem Ctx.readAllowed_iff (c : Ctx) :
    c.readAllowed = true ↔ c.el = .el2 ∨ c.el = .el3 ∨
      c.el = .el1 ∧ (c.el2Enabled = true →
        (c.el2UsingAArch32 = true → c.hstrT0 = false ∧ c.hcrTid3 = false) ∧
        (c.el2UsingAArch32 = false → c.hstrEl2T0 = false ∧ c.hcrEl2Tid3 = false)) := by
  have hallowed : c.readAllowed = true ↔
      c.el ≠ .el0 ∧ ¬ c.trapsToHyp = true ∧ ¬ c.trapsToA64 = true := by
    simp [Ctx.readAllowed, and_assoc]
  rw [hallowed, c.trapsToHyp_iff, c.trapsToA64_iff]
  cases hel : c.el with
  | el0 => simp
  | el1 =>
    cases c.el2Enabled with
    | false => simp
    | true => cases c.el2UsingAArch32 <;> simp
  | el2 => simp
  | el3 => simp

/-! ### The obligations -/

/-- Settles O28: the requirement is that the read is allowed, and an allowed read leaves its value in
Rt. -/
theorem bootRequirement : Obligations.BootRequirement := by
  intro s c t hc hclear
  have hvalue := State.readResult_of_readAllowed hc (s.ctx.readAllowed_iff.mpr hclear)
  obtain ⟨hA1, hT1⟩ := exec_rtOf s c t
  exact ⟨s.readInto t, hA1, hT1, congrArg some hvalue, State.readReg_readInto_of_value hvalue⟩

/-- Settles O46: the register copies are one zero repeated, and the rest is written out in
`State.reset`. -/
theorem resetChoices : Obligations.ResetChoices :=
  ⟨rfl, rfl, rfl, rfl, fun j => Vector.getElem_replicate j.isLt, rfl⟩

end Sys2Proof.Machine
end

section
/-! The words that the decoder itself refuses (R54, R60, R61; 95_test_vectors.md 2.2). -/

namespace Sys2Proof

/-- No condition has the number 0b1111 (R54), so no A32 word with it decodes. -/
theorem decodeWord_a32_eq_none_of_condField {w : Word} (hc : condField w = 15#4) :
    decodeWord .a32 w = none := by
  refine Option.eq_none_iff_forall_ne_some.mpr fun i hi => ?_
  obtain ⟨-, c, hbits, -⟩ := (decodeWord_a32_eq_some_iff w i).mp hi
  exact c.bits_ne_15 (hbits.trans hc)

end Sys2Proof

namespace Sys2Proof.Machine

/-- Settles O2: each word differs from the read's pattern under the mask of its instruction set, but for
the one whose condition is 0b1111, which the A32 mask leaves free. -/
theorem neighbourWordsRefused : Obligations.NeighbourWordsRefused := by
  intro w hw
  have ha32 : condField w = 15#4 ∨ w &&& 0x0FFF0FFF#32 ≠ 0x0E100FB2#32 := by
    fin_cases hw <;> decide
  have ht32 : w &&& 0xFFFF0FFF#32 ≠ 0xEE100FB2#32 := by
    fin_cases hw <;> decide
  exact ⟨ha32.elim decodeWord_a32_eq_none_of_condField decodeWord_a32_eq_none,
    decodeWord_t32_eq_none ht32⟩

end Sys2Proof.Machine
end
